-- ==== Sys2Proof/Word.lean ====
section
/-! DEFINITION. The widths the machine works with (spec/00_scope.md R7): 8-bit bytes, 16-bit logical
addresses and registers, 17-bit real addresses. -/

namespace Sys2Proof

/-- One byte of storage or an 8-bit register (the parity bit is not modelled, R7). -/
abbrev Byte := BitVec 8

/-- A 16-bit register or logical address (R7, R53). -/
abbrev Word := BitVec 16

/-- A 17-bit real main-storage address (R7, R53). -/
abbrev RealAddr := BitVec 17

end Sys2Proof
end

