-- ==== Sys2Proof/Machine/Memory.lean ====
section
/-! DEFINITION. Main storage as a list of cells by physical address (spec/10_state.md R52), in one canonical
form: addresses strictly rising, and no cell that holds what an unlisted address reads as. -/

namespace Sys2Proof.Machine

/-- What a byte of storage that nothing has written reads as. DESIGN CHOICE, unsafe (log 2): the spec gives
main storage no reset contents (R58). -/
def Memory.blank : Byte := 0x00

/-- The byte at a physical address. -/
def Memory.read : List Host.Cell → Nat → Byte
  | [], _ => Memory.blank
  | c :: m, a => if c.1 = a then c.2 else Memory.read m a

/-- Put a byte at a physical address, keeping the canonical form. -/
def Memory.write : List Host.Cell → Nat → Byte → List Host.Cell
  | [], a, b => if b = Memory.blank then [] else [(a, b)]
  | c :: m, a, b =>
    if a < c.1 then
      if b = Memory.blank then c :: m else (a, b) :: c :: m
    else if a = c.1 then
      if b = Memory.blank then m else (a, b) :: m
    else c :: Memory.write m a b

/-- Every address listed is above `a`. -/
def Memory.above (a : Nat) : List Host.Cell → Bool
  | [] => true
  | c :: m => decide (a < c.1) && Memory.above a m

/-- The canonical form: strictly rising addresses, no blank cell. -/
def Memory.wf : List Host.Cell → Bool
  | [] => true
  | c :: m => c.2 != Memory.blank && Memory.above c.1 m && Memory.wf m

/-- Every address listed is below `n`. -/
def Memory.below (n : Nat) : List Host.Cell → Bool
  | [] => true
  | c :: m => decide (c.1 < n) && Memory.below n m

end Sys2Proof.Machine
end

