-- ==== Sys2Proof/Config.lean ====
section
/-! DEFINITION. What an installation fixes (the parameters of spec/00_scope.md R7, held as plain data in
the state so that every claim is for all of them) and the free values: constants with no body, for what
the spec leaves "unspecified" or "any value" after an instruction that goes on. -/

namespace Sys2Proof

/-- `STORAGE_SIZE` (R7): main storage holds 32K, 48K, 64K, 96K or 128K bytes. -/
inductive StorageSize where
  | k32 | k48 | k64 | k96 | k128
  deriving DecidableEq, Repr

/-- The number of bytes of main storage (R7, R52). -/
def StorageSize.bytes : StorageSize → Nat
  | .k32 => 32768
  | .k48 => 49152
  | .k64 => 65536
  | .k96 => 98304
  | .k128 => 131072

/-- The open parameters of R7, as plain data (log 3).
`itcTable` is the predicate `itcSignificant` of decision D9, one bit for each byte value. -/
structure Params where
  /-- `STORAGE_SIZE` -/
  size : StorageSize
  /-- `NONPRIV_LOW_READ_FAULTS` (D11) -/
  lowReadFaults : Bool
  /-- `itcSignificant` (D9): bit x is on when byte x is a significant digit -/
  itcTable : BitVec 256
  deriving DecidableEq, Repr

/-- The defaults of R7: D9's hex F1 to F9, D11's false, and 64K bytes (DESIGN CHOICE, unsafe, log 3). -/
def Params.default : Params where
  size := .k64
  lowReadFaults := false
  itcTable := BitVec.ofNat 256 (0x1FF * 2 ^ 0xF1)

/-- `itcSignificant(byte)` of R196, decision D9. -/
def Params.itcSignificant (p : Params) (b : Byte) : Bool := p.itcTable.getLsbD b.toNat

/-- The major clock times of spec/10_state.md R46 and spec/70_reset_and_hazards.md R331, R332. -/
inductive MajorTime where
  | op | q | ih1 | il1 | ih2 | il2 | ea | eb | ec
  deriving DecidableEq, Repr, Inhabited

/-- The minor clock times of R46. -/
inductive MinorTime where
  | a | b | c | d
  deriving DecidableEq, Repr, Inhabited

/-- A clock time as status byte 0 shows it (R46). -/
structure ClockTime where
  major : MajorTime
  minor : MinorTime
  deriving DecidableEq, Repr, Inhabited

/-- FREE VALUE: the six PSR bits and the two bytes of LSR 15 after `A` with the PSR selected
(R166, decision D24; log 8). -/
opaque Config.freeByte : Nat → Byte

/-- FREE VALUE: High, Low, Equal after `ED` outside the footnote conditions (R194, U15; log 9). -/
opaque Config.freeCondition : Nat → BitVec 3

/-- FREE VALUE: how far beyond the op and Q bytes the IAR stands after an undefined op code
(R128, R289, decision D13; log 10). -/
opaque Config.freeAdvance : Nat → Word

/-- FREE VALUE: the clock time at which a stop leaves the clock (R46, R325; log 11). -/
opaque Config.freeClock : Nat → ClockTime

/-- FREE VALUE: the scratch registers X-high, X-low and Y between instructions (R32, R55; log 12). -/
opaque Config.freeScratch : Nat → BitVec 24

/-- FREE VALUE: what the control processor loads into the MSAR to address an MSP register (R37, R297;
log 66). -/
opaque Config.freeMsar : Nat → Word

/-- FREE VALUE: whether an access to a logical and a real address meets the compare function that bits 0-3
of the CCR select, with the ACR's contents (R44, R45, R299: the function codes are not given; log 28). -/
opaque Config.addressCompares : (function : BitVec 4) → (acr : RealAddr) → (logical : Word) → (real : RealAddr) → Bool

end Sys2Proof
end

