-- ==== Sys2Proof/Syntax.lean ====
section
/-! DEFINITION. The instruction set: one constructor for each of the 126 rows of spec/opcode_table.json
(spec/30_encoding.md R118, R119). A constructor is its mnemonic and its format (R112): X with the addressing
of operand 1 and of operand 2, Y and Z with that of the one operand (0 direct, 1 by XR1, 2 by XR2); the three
command instructions are format F. `q` is the Q-byte, `a1`, `a2` direct addresses, `d1`, `d2` displacements,
`r` the R-byte (R115). -/

namespace Sys2Proof

inductive Instr where
  /-- Zero and add zoned, op 04 (R154). -/
  | zazX00 (q : Byte) (a1 : Word) (a2 : Word)
  /-- Zero and add zoned, op 14 (R154). -/
  | zazX01 (q : Byte) (a1 : Word) (d2 : Byte)
  /-- Zero and add zoned, op 24 (R154). -/
  | zazX02 (q : Byte) (a1 : Word) (d2 : Byte)
  /-- Zero and add zoned, op 44 (R154). -/
  | zazX10 (q : Byte) (d1 : Byte) (a2 : Word)
  /-- Zero and add zoned, op 54 (R154). -/
  | zazX11 (q : Byte) (d1 : Byte) (d2 : Byte)
  /-- Zero and add zoned, op 64 (R154). -/
  | zazX12 (q : Byte) (d1 : Byte) (d2 : Byte)
  /-- Zero and add zoned, op 84 (R154). -/
  | zazX20 (q : Byte) (d1 : Byte) (a2 : Word)
  /-- Zero and add zoned, op 94 (R154). -/
  | zazX21 (q : Byte) (d1 : Byte) (d2 : Byte)
  /-- Zero and add zoned, op A4 (R154). -/
  | zazX22 (q : Byte) (d1 : Byte) (d2 : Byte)
  /-- Add zoned decimal, op 06 (R155). -/
  | azX00 (q : Byte) (a1 : Word) (a2 : Word)
  /-- Add zoned decimal, op 16 (R155). -/
  | azX01 (q : Byte) (a1 : Word) (d2 : Byte)
  /-- Add zoned decimal, op 26 (R155). -/
  | azX02 (q : Byte) (a1 : Word) (d2 : Byte)
  /-- Add zoned decimal, op 46 (R155). -/
  | azX10 (q : Byte) (d1 : Byte) (a2 : Word)
  /-- Add zoned decimal, op 56 (R155). -/
  | azX11 (q : Byte) (d1 : Byte) (d2 : Byte)
  /-- Add zoned decimal, op 66 (R155). -/
  | azX12 (q : Byte) (d1 : Byte) (d2 : Byte)
  /-- Add zoned decimal, op 86 (R155). -/
  | azX20 (q : Byte) (d1 : Byte) (a2 : Word)
  /-- Add zoned decimal, op 96 (R155). -/
  | azX21 (q : Byte) (d1 : Byte) (d2 : Byte)
  /-- Add zoned decimal, op A6 (R155). -/
  | azX22 (q : Byte) (d1 : Byte) (d2 : Byte)
  /-- Subtract zoned decimal, op 07 (R156). -/
  | szX00 (q : Byte) (a1 : Word) (a2 : Word)
  /-- Subtract zoned decimal, op 17 (R156). -/
  | szX01 (q : Byte) (a1 : Word) (d2 : Byte)
  /-- Subtract zoned decimal, op 27 (R156). -/
  | szX02 (q : Byte) (a1 : Word) (d2 : Byte)
  /-- Subtract zoned decimal, op 47 (R156). -/
  | szX10 (q : Byte) (d1 : Byte) (a2 : Word)
  /-- Subtract zoned decimal, op 57 (R156). -/
  | szX11 (q : Byte) (d1 : Byte) (d2 : Byte)
  /-- Subtract zoned decimal, op 67 (R156). -/
  | szX12 (q : Byte) (d1 : Byte) (d2 : Byte)
  /-- Subtract zoned decimal, op 87 (R156). -/
  | szX20 (q : Byte) (d1 : Byte) (a2 : Word)
  /-- Subtract zoned decimal, op 97 (R156). -/
  | szX21 (q : Byte) (d1 : Byte) (d2 : Byte)
  /-- Subtract zoned decimal, op A7 (R156). -/
  | szX22 (q : Byte) (d1 : Byte) (d2 : Byte)
  /-- Add logical characters, op 0E (R161). -/
  | alcX00 (q : Byte) (a1 : Word) (a2 : Word)
  /-- Add logical characters, op 1E (R161). -/
  | alcX01 (q : Byte) (a1 : Word) (d2 : Byte)
  /-- Add logical characters, op 2E (R161). -/
  | alcX02 (q : Byte) (a1 : Word) (d2 : Byte)
  /-- Add logical characters, op 4E (R161). -/
  | alcX10 (q : Byte) (d1 : Byte) (a2 : Word)
  /-- Add logical characters, op 5E (R161). -/
  | alcX11 (q : Byte) (d1 : Byte) (d2 : Byte)
  /-- Add logical characters, op 6E (R161). -/
  | alcX12 (q : Byte) (d1 : Byte) (d2 : Byte)
  /-- Add logical characters, op 8E (R161). -/
  | alcX20 (q : Byte) (d1 : Byte) (a2 : Word)
  /-- Add logical characters, op 9E (R161). -/
  | alcX21 (q : Byte) (d1 : Byte) (d2 : Byte)
  /-- Add logical characters, op AE (R161). -/
  | alcX22 (q : Byte) (d1 : Byte) (d2 : Byte)
  /-- Subtract logical characters, op 0F (R162). -/
  | slcX00 (q : Byte) (a1 : Word) (a2 : Word)
  /-- Subtract logical characters, op 1F (R162). -/
  | slcX01 (q : Byte) (a1 : Word) (d2 : Byte)
  /-- Subtract logical characters, op 2F (R162). -/
  | slcX02 (q : Byte) (a1 : Word) (d2 : Byte)
  /-- Subtract logical characters, op 4F (R162). -/
  | slcX10 (q : Byte) (d1 : Byte) (a2 : Word)
  /-- Subtract logical characters, op 5F (R162). -/
  | slcX11 (q : Byte) (d1 : Byte) (d2 : Byte)
  /-- Subtract logical characters, op 6F (R162). -/
  | slcX12 (q : Byte) (d1 : Byte) (d2 : Byte)
  /-- Subtract logical characters, op 8F (R162). -/
  | slcX20 (q : Byte) (d1 : Byte) (a2 : Word)
  /-- Subtract logical characters, op 9F (R162). -/
  | slcX21 (q : Byte) (d1 : Byte) (d2 : Byte)
  /-- Subtract logical characters, op AF (R162). -/
  | slcX22 (q : Byte) (d1 : Byte) (d2 : Byte)
  /-- Add to register, op 36 (R165). -/
  | aY0 (q : Byte) (a1 : Word)
  /-- Add to register, op 76 (R165). -/
  | aY1 (q : Byte) (d1 : Byte)
  /-- Add to register, op B6 (R165). -/
  | aY2 (q : Byte) (d1 : Byte)
  /-- Move hexadecimal character, op 08 (R190). -/
  | mvxX00 (q : Byte) (a1 : Word) (a2 : Word)
  /-- Move hexadecimal character, op 18 (R190). -/
  | mvxX01 (q : Byte) (a1 : Word) (d2 : Byte)
  /-- Move hexadecimal character, op 28 (R190). -/
  | mvxX02 (q : Byte) (a1 : Word) (d2 : Byte)
  /-- Move hexadecimal character, op 48 (R190). -/
  | mvxX10 (q : Byte) (d1 : Byte) (a2 : Word)
  /-- Move hexadecimal character, op 58 (R190). -/
  | mvxX11 (q : Byte) (d1 : Byte) (d2 : Byte)
  /-- Move hexadecimal character, op 68 (R190). -/
  | mvxX12 (q : Byte) (d1 : Byte) (d2 : Byte)
  /-- Move hexadecimal character, op 88 (R190). -/
  | mvxX20 (q : Byte) (d1 : Byte) (a2 : Word)
  /-- Move hexadecimal character, op 98 (R190). -/
  | mvxX21 (q : Byte) (d1 : Byte) (d2 : Byte)
  /-- Move hexadecimal character, op A8 (R190). -/
  | mvxX22 (q : Byte) (d1 : Byte) (d2 : Byte)
  /-- Move characters, op 0C (R191). -/
  | mvcX00 (q : Byte) (a1 : Word) (a2 : Word)
  /-- Move characters, op 1C (R191). -/
  | mvcX01 (q : Byte) (a1 : Word) (d2 : Byte)
  /-- Move characters, op 2C (R191). -/
  | mvcX02 (q : Byte) (a1 : Word) (d2 : Byte)
  /-- Move characters, op 4C (R191). -/
  | mvcX10 (q : Byte) (d1 : Byte) (a2 : Word)
  /-- Move characters, op 5C (R191). -/
  | mvcX11 (q : Byte) (d1 : Byte) (d2 : Byte)
  /-- Move characters, op 6C (R191). -/
  | mvcX12 (q : Byte) (d1 : Byte) (d2 : Byte)
  /-- Move characters, op 8C (R191). -/
  | mvcX20 (q : Byte) (d1 : Byte) (a2 : Word)
  /-- Move characters, op 9C (R191). -/
  | mvcX21 (q : Byte) (d1 : Byte) (d2 : Byte)
  /-- Move characters, op AC (R191). -/
  | mvcX22 (q : Byte) (d1 : Byte) (d2 : Byte)
  /-- Edit, op 0A (R193). -/
  | edX00 (q : Byte) (a1 : Word) (a2 : Word)
  /-- Edit, op 1A (R193). -/
  | edX01 (q : Byte) (a1 : Word) (d2 : Byte)
  /-- Edit, op 2A (R193). -/
  | edX02 (q : Byte) (a1 : Word) (d2 : Byte)
  /-- Edit, op 4A (R193). -/
  | edX10 (q : Byte) (d1 : Byte) (a2 : Word)
  /-- Edit, op 5A (R193). -/
  | edX11 (q : Byte) (d1 : Byte) (d2 : Byte)
  /-- Edit, op 6A (R193). -/
  | edX12 (q : Byte) (d1 : Byte) (d2 : Byte)
  /-- Edit, op 8A (R193). -/
  | edX20 (q : Byte) (d1 : Byte) (a2 : Word)
  /-- Edit, op 9A (R193). -/
  | edX21 (q : Byte) (d1 : Byte) (d2 : Byte)
  /-- Edit, op AA (R193). -/
  | edX22 (q : Byte) (d1 : Byte) (d2 : Byte)
  /-- Insert and test characters, op 0B (R196). -/
  | itcX00 (q : Byte) (a1 : Word) (a2 : Word)
  /-- Insert and test characters, op 1B (R196). -/
  | itcX01 (q : Byte) (a1 : Word) (d2 : Byte)
  /-- Insert and test characters, op 2B (R196). -/
  | itcX02 (q : Byte) (a1 : Word) (d2 : Byte)
  /-- Insert and test characters, op 4B (R196). -/
  | itcX10 (q : Byte) (d1 : Byte) (a2 : Word)
  /-- Insert and test characters, op 5B (R196). -/
  | itcX11 (q : Byte) (d1 : Byte) (d2 : Byte)
  /-- Insert and test characters, op 6B (R196). -/
  | itcX12 (q : Byte) (d1 : Byte) (d2 : Byte)
  /-- Insert and test characters, op 8B (R196). -/
  | itcX20 (q : Byte) (d1 : Byte) (a2 : Word)
  /-- Insert and test characters, op 9B (R196). -/
  | itcX21 (q : Byte) (d1 : Byte) (d2 : Byte)
  /-- Insert and test characters, op AB (R196). -/
  | itcX22 (q : Byte) (d1 : Byte) (d2 : Byte)
  /-- Move logical immediate, op 3C (R198). -/
  | mviY0 (q : Byte) (a1 : Word)
  /-- Move logical immediate, op 7C (R198). -/
  | mviY1 (q : Byte) (d1 : Byte)
  /-- Move logical immediate, op BC (R198). -/
  | mviY2 (q : Byte) (d1 : Byte)
  /-- Set bits on masked, op 3A (R199). -/
  | sbnY0 (q : Byte) (a1 : Word)
  /-- Set bits on masked, op 7A (R199). -/
  | sbnY1 (q : Byte) (d1 : Byte)
  /-- Set bits on masked, op BA (R199). -/
  | sbnY2 (q : Byte) (d1 : Byte)
  /-- Set bits off masked, op 3B (R200). -/
  | sbfY0 (q : Byte) (a1 : Word)
  /-- Set bits off masked, op 7B (R200). -/
  | sbfY1 (q : Byte) (d1 : Byte)
  /-- Set bits off masked, op BB (R200). -/
  | sbfY2 (q : Byte) (d1 : Byte)
  /-- Store register, op 34 (R202). -/
  | stY0 (q : Byte) (a1 : Word)
  /-- Store register, op 74 (R202). -/
  | stY1 (q : Byte) (d1 : Byte)
  /-- Store register, op B4 (R202). -/
  | stY2 (q : Byte) (d1 : Byte)
  /-- Load register, op 35 (R205). -/
  | lY0 (q : Byte) (a1 : Word)
  /-- Load register, op 75 (R205). -/
  | lY1 (q : Byte) (d1 : Byte)
  /-- Load register, op B5 (R205). -/
  | lY2 (q : Byte) (d1 : Byte)
  /-- Load address, op C2 (R206). -/
  | laZ0 (q : Byte) (a1 : Word)
  /-- Load address, op D2 (R206). -/
  | laZ1 (q : Byte) (d1 : Byte)
  /-- Load address, op E2 (R206). -/
  | laZ2 (q : Byte) (d1 : Byte)
  /-- Compare logical immediate, op 3D (R230). -/
  | cliY0 (q : Byte) (a1 : Word)
  /-- Compare logical immediate, op 7D (R230). -/
  | cliY1 (q : Byte) (d1 : Byte)
  /-- Compare logical immediate, op BD (R230). -/
  | cliY2 (q : Byte) (d1 : Byte)
  /-- Compare logical characters, op 0D (R231). -/
  | clcX00 (q : Byte) (a1 : Word) (a2 : Word)
  /-- Compare logical characters, op 1D (R231). -/
  | clcX01 (q : Byte) (a1 : Word) (d2 : Byte)
  /-- Compare logical characters, op 2D (R231). -/
  | clcX02 (q : Byte) (a1 : Word) (d2 : Byte)
  /-- Compare logical characters, op 4D (R231). -/
  | clcX10 (q : Byte) (d1 : Byte) (a2 : Word)
  /-- Compare logical characters, op 5D (R231). -/
  | clcX11 (q : Byte) (d1 : Byte) (d2 : Byte)
  /-- Compare logical characters, op 6D (R231). -/
  | clcX12 (q : Byte) (d1 : Byte) (d2 : Byte)
  /-- Compare logical characters, op 8D (R231). -/
  | clcX20 (q : Byte) (d1 : Byte) (a2 : Word)
  /-- Compare logical characters, op 9D (R231). -/
  | clcX21 (q : Byte) (d1 : Byte) (d2 : Byte)
  /-- Compare logical characters, op AD (R231). -/
  | clcX22 (q : Byte) (d1 : Byte) (d2 : Byte)
  /-- Test bits on masked, op 38 (R232). -/
  | tbnY0 (q : Byte) (a1 : Word)
  /-- Test bits on masked, op 78 (R232). -/
  | tbnY1 (q : Byte) (d1 : Byte)
  /-- Test bits on masked, op B8 (R232). -/
  | tbnY2 (q : Byte) (d1 : Byte)
  /-- Test bits off masked, op 39 (R233). -/
  | tbfY0 (q : Byte) (a1 : Word)
  /-- Test bits off masked, op 79 (R233). -/
  | tbfY1 (q : Byte) (d1 : Byte)
  /-- Test bits off masked, op B9 (R233). -/
  | tbfY2 (q : Byte) (d1 : Byte)
  /-- Branch on condition, op C0 (R237). -/
  | bcZ0 (q : Byte) (a1 : Word)
  /-- Branch on condition, op D0 (R237). -/
  | bcZ1 (q : Byte) (d1 : Byte)
  /-- Branch on condition, op E0 (R237). -/
  | bcZ2 (q : Byte) (d1 : Byte)
  /-- Jump on condition, op F2 (R261). -/
  | jc (q : Byte) (r : Byte)
  /-- Load program mode register, op F6 (R263). -/
  | lpmr (q : Byte) (r : Byte)
  /-- Supervisor call, op F4 (R265). -/
  | svc (q : Byte) (r : Byte)
  deriving DecidableEq, Repr

end Sys2Proof
end

