-- ==== Sys2Proof/Decode.lean ====
section
/-! DEFINITION. Instruction formats, decoding and encoding (spec/30_encoding.md R110-R131), with the byte
and bit helpers every layer uses. -/

namespace Sys2Proof

/-! ## Bits and bytes (spec/00_scope.md R8, R9, R10) -/

/-- Bit `i` of a byte in IBM numbering: bit 0 is the most significant (R8). -/
def ibmBit (b : Byte) (i : Nat) : Bool := b.getLsbD (7 - i)

/-- `hi(v)`: the high byte of a 16-bit value (R10). -/
def hi (v : Word) : Byte := v.extractLsb' 8 8

/-- `lo(v)`: the low byte of a 16-bit value (R10). -/
def lo (v : Word) : Byte := v.extractLsb' 0 8

/-- `h ++ l`: two bytes as a 16-bit value, high byte first (R10, R71). -/
def join (h l : Byte) : Word := h ++ l

/-- `zone(b)`: bits 0-3 of a byte (R9). -/
def zone (b : Byte) : BitVec 4 := b.extractLsb' 4 4

/-- `num(b)`: bits 4-7 of a byte (R9). -/
def num (b : Byte) : BitVec 4 := b.extractLsb' 0 4

/-- `z ++ n`: a byte from a zone and a numeric part (R9, R35). -/
def zoned (z n : BitVec 4) : Byte := z ++ n

/-! ## Formats -/

/-- The addressing of one operand: the codes 00, 01, 10 of R111. -/
inductive Mode where
  | direct | xr1 | xr2
  deriving DecidableEq, Repr

/-- An operand address as the instruction gives it (R116). -/
inductive Operand where
  /-- a 2-byte direct address -/
  | direct (a : Word)
  /-- a 1-byte displacement over XR1 -/
  | xr1 (d : Byte)
  /-- a 1-byte displacement over XR2 -/
  | xr2 (d : Byte)
  deriving DecidableEq, Repr

/-- The two-address instructions, type X (R117). -/
inductive TwoOp where
  | zaz | az | sz | mvx | ed | itc | mvc | clc | alc | slc
  deriving DecidableEq, Repr

/-- The one-address instructions of type Y (R117). -/
inductive OneOp where
  | st | l | a | tbn | tbf | sbn | sbf | mvi | cli
  deriving DecidableEq, Repr

/-- The one-address instructions of type Z, whose address is a value (R113, R117). -/
inductive AddrOp where
  | bc | la
  deriving DecidableEq, Repr

/-- The command instructions, type F (R117). -/
inductive CmdOp where
  | jc | svc | lpmr
  deriving DecidableEq, Repr

/-- What the op byte says: the operation and the addressing of its operands (R111, R117). -/
inductive Header where
  | two (op : TwoOp) (m1 m2 : Mode)
  | one (op : OneOp) (m : Mode)
  | addr (op : AddrOp) (m : Mode)
  | cmd (op : CmdOp)
  deriving DecidableEq, Repr

/-- An instruction as its operation, its Q-byte and its operands: the same information as `Instr`, with
the addressing forms of one mnemonic under one name. -/
inductive Form where
  | two (op : TwoOp) (q : Byte) (o1 o2 : Operand)
  | one (op : OneOp) (q : Byte) (o : Operand)
  | addr (op : AddrOp) (q : Byte) (o : Operand)
  | cmd (op : CmdOp) (q r : Byte)
  deriving DecidableEq, Repr

/-- The form of an instruction (R112, R119). -/
def Instr.form : Instr → Form
  | .zazX00 q a1 a2 => .two .zaz q (.direct a1) (.direct a2)
  | .zazX01 q a1 d2 => .two .zaz q (.direct a1) (.xr1 d2)
  | .zazX02 q a1 d2 => .two .zaz q (.direct a1) (.xr2 d2)
  | .zazX10 q d1 a2 => .two .zaz q (.xr1 d1) (.direct a2)
  | .zazX11 q d1 d2 => .two .zaz q (.xr1 d1) (.xr1 d2)
  | .zazX12 q d1 d2 => .two .zaz q (.xr1 d1) (.xr2 d2)
  | .zazX20 q d1 a2 => .two .zaz q (.xr2 d1) (.direct a2)
  | .zazX21 q d1 d2 => .two .zaz q (.xr2 d1) (.xr1 d2)
  | .zazX22 q d1 d2 => .two .zaz q (.xr2 d1) (.xr2 d2)
  | .azX00 q a1 a2 => .two .az q (.direct a1) (.direct a2)
  | .azX01 q a1 d2 => .two .az q (.direct a1) (.xr1 d2)
  | .azX02 q a1 d2 => .two .az q (.direct a1) (.xr2 d2)
  | .azX10 q d1 a2 => .two .az q (.xr1 d1) (.direct a2)
  | .azX11 q d1 d2 => .two .az q (.xr1 d1) (.xr1 d2)
  | .azX12 q d1 d2 => .two .az q (.xr1 d1) (.xr2 d2)
  | .azX20 q d1 a2 => .two .az q (.xr2 d1) (.direct a2)
  | .azX21 q d1 d2 => .two .az q (.xr2 d1) (.xr1 d2)
  | .azX22 q d1 d2 => .two .az q (.xr2 d1) (.xr2 d2)
  | .szX00 q a1 a2 => .two .sz q (.direct a1) (.direct a2)
  | .szX01 q a1 d2 => .two .sz q (.direct a1) (.xr1 d2)
  | .szX02 q a1 d2 => .two .sz q (.direct a1) (.xr2 d2)
  | .szX10 q d1 a2 => .two .sz q (.xr1 d1) (.direct a2)
  | .szX11 q d1 d2 => .two .sz q (.xr1 d1) (.xr1 d2)
  | .szX12 q d1 d2 => .two .sz q (.xr1 d1) (.xr2 d2)
  | .szX20 q d1 a2 => .two .sz q (.xr2 d1) (.direct a2)
  | .szX21 q d1 d2 => .two .sz q (.xr2 d1) (.xr1 d2)
  | .szX22 q d1 d2 => .two .sz q (.xr2 d1) (.xr2 d2)
  | .alcX00 q a1 a2 => .two .alc q (.direct a1) (.direct a2)
  | .alcX01 q a1 d2 => .two .alc q (.direct a1) (.xr1 d2)
  | .alcX02 q a1 d2 => .two .alc q (.direct a1) (.xr2 d2)
  | .alcX10 q d1 a2 => .two .alc q (.xr1 d1) (.direct a2)
  | .alcX11 q d1 d2 => .two .alc q (.xr1 d1) (.xr1 d2)
  | .alcX12 q d1 d2 => .two .alc q (.xr1 d1) (.xr2 d2)
  | .alcX20 q d1 a2 => .two .alc q (.xr2 d1) (.direct a2)
  | .alcX21 q d1 d2 => .two .alc q (.xr2 d1) (.xr1 d2)
  | .alcX22 q d1 d2 => .two .alc q (.xr2 d1) (.xr2 d2)
  | .slcX00 q a1 a2 => .two .slc q (.direct a1) (.direct a2)
  | .slcX01 q a1 d2 => .two .slc q (.direct a1) (.xr1 d2)
  | .slcX02 q a1 d2 => .two .slc q (.direct a1) (.xr2 d2)
  | .slcX10 q d1 a2 => .two .slc q (.xr1 d1) (.direct a2)
  | .slcX11 q d1 d2 => .two .slc q (.xr1 d1) (.xr1 d2)
  | .slcX12 q d1 d2 => .two .slc q (.xr1 d1) (.xr2 d2)
  | .slcX20 q d1 a2 => .two .slc q (.xr2 d1) (.direct a2)
  | .slcX21 q d1 d2 => .two .slc q (.xr2 d1) (.xr1 d2)
  | .slcX22 q d1 d2 => .two .slc q (.xr2 d1) (.xr2 d2)
  | .aY0 q a1 => .one .a q (.direct a1)
  | .aY1 q d1 => .one .a q (.xr1 d1)
  | .aY2 q d1 => .one .a q (.xr2 d1)
  | .mvxX00 q a1 a2 => .two .mvx q (.direct a1) (.direct a2)
  | .mvxX01 q a1 d2 => .two .mvx q (.direct a1) (.xr1 d2)
  | .mvxX02 q a1 d2 => .two .mvx q (.direct a1) (.xr2 d2)
  | .mvxX10 q d1 a2 => .two .mvx q (.xr1 d1) (.direct a2)
  | .mvxX11 q d1 d2 => .two .mvx q (.xr1 d1) (.xr1 d2)
  | .mvxX12 q d1 d2 => .two .mvx q (.xr1 d1) (.xr2 d2)
  | .mvxX20 q d1 a2 => .two .mvx q (.xr2 d1) (.direct a2)
  | .mvxX21 q d1 d2 => .two .mvx q (.xr2 d1) (.xr1 d2)
  | .mvxX22 q d1 d2 => .two .mvx q (.xr2 d1) (.xr2 d2)
  | .mvcX00 q a1 a2 => .two .mvc q (.direct a1) (.direct a2)
  | .mvcX01 q a1 d2 => .two .mvc q (.direct a1) (.xr1 d2)
  | .mvcX02 q a1 d2 => .two .mvc q (.direct a1) (.xr2 d2)
  | .mvcX10 q d1 a2 => .two .mvc q (.xr1 d1) (.direct a2)
  | .mvcX11 q d1 d2 => .two .mvc q (.xr1 d1) (.xr1 d2)
  | .mvcX12 q d1 d2 => .two .mvc q (.xr1 d1) (.xr2 d2)
  | .mvcX20 q d1 a2 => .two .mvc q (.xr2 d1) (.direct a2)
  | .mvcX21 q d1 d2 => .two .mvc q (.xr2 d1) (.xr1 d2)
  | .mvcX22 q d1 d2 => .two .mvc q (.xr2 d1) (.xr2 d2)
  | .edX00 q a1 a2 => .two .ed q (.direct a1) (.direct a2)
  | .edX01 q a1 d2 => .two .ed q (.direct a1) (.xr1 d2)
  | .edX02 q a1 d2 => .two .ed q (.direct a1) (.xr2 d2)
  | .edX10 q d1 a2 => .two .ed q (.xr1 d1) (.direct a2)
  | .edX11 q d1 d2 => .two .ed q (.xr1 d1) (.xr1 d2)
  | .edX12 q d1 d2 => .two .ed q (.xr1 d1) (.xr2 d2)
  | .edX20 q d1 a2 => .two .ed q (.xr2 d1) (.direct a2)
  | .edX21 q d1 d2 => .two .ed q (.xr2 d1) (.xr1 d2)
  | .edX22 q d1 d2 => .two .ed q (.xr2 d1) (.xr2 d2)
  | .itcX00 q a1 a2 => .two .itc q (.direct a1) (.direct a2)
  | .itcX01 q a1 d2 => .two .itc q (.direct a1) (.xr1 d2)
  | .itcX02 q a1 d2 => .two .itc q (.direct a1) (.xr2 d2)
  | .itcX10 q d1 a2 => .two .itc q (.xr1 d1) (.direct a2)
  | .itcX11 q d1 d2 => .two .itc q (.xr1 d1) (.xr1 d2)
  | .itcX12 q d1 d2 => .two .itc q (.xr1 d1) (.xr2 d2)
  | .itcX20 q d1 a2 => .two .itc q (.xr2 d1) (.direct a2)
  | .itcX21 q d1 d2 => .two .itc q (.xr2 d1) (.xr1 d2)
  | .itcX22 q d1 d2 => .two .itc q (.xr2 d1) (.xr2 d2)
  | .mviY0 q a1 => .one .mvi q (.direct a1)
  | .mviY1 q d1 => .one .mvi q (.xr1 d1)
  | .mviY2 q d1 => .one .mvi q (.xr2 d1)
  | .sbnY0 q a1 => .one .sbn q (.direct a1)
  | .sbnY1 q d1 => .one .sbn q (.xr1 d1)
  | .sbnY2 q d1 => .one .sbn q (.xr2 d1)
  | .sbfY0 q a1 => .one .sbf q (.direct a1)
  | .sbfY1 q d1 => .one .sbf q (.xr1 d1)
  | .sbfY2 q d1 => .one .sbf q (.xr2 d1)
  | .stY0 q a1 => .one .st q (.direct a1)
  | .stY1 q d1 => .one .st q (.xr1 d1)
  | .stY2 q d1 => .one .st q (.xr2 d1)
  | .lY0 q a1 => .one .l q (.direct a1)
  | .lY1 q d1 => .one .l q (.xr1 d1)
  | .lY2 q d1 => .one .l q (.xr2 d1)
  | .laZ0 q a1 => .addr .la q (.direct a1)
  | .laZ1 q d1 => .addr .la q (.xr1 d1)
  | .laZ2 q d1 => .addr .la q (.xr2 d1)
  | .cliY0 q a1 => .one .cli q (.direct a1)
  | .cliY1 q d1 => .one .cli q (.xr1 d1)
  | .cliY2 q d1 => .one .cli q (.xr2 d1)
  | .clcX00 q a1 a2 => .two .clc q (.direct a1) (.direct a2)
  | .clcX01 q a1 d2 => .two .clc q (.direct a1) (.xr1 d2)
  | .clcX02 q a1 d2 => .two .clc q (.direct a1) (.xr2 d2)
  | .clcX10 q d1 a2 => .two .clc q (.xr1 d1) (.direct a2)
  | .clcX11 q d1 d2 => .two .clc q (.xr1 d1) (.xr1 d2)
  | .clcX12 q d1 d2 => .two .clc q (.xr1 d1) (.xr2 d2)
  | .clcX20 q d1 a2 => .two .clc q (.xr2 d1) (.direct a2)
  | .clcX21 q d1 d2 => .two .clc q (.xr2 d1) (.xr1 d2)
  | .clcX22 q d1 d2 => .two .clc q (.xr2 d1) (.xr2 d2)
  | .tbnY0 q a1 => .one .tbn q (.direct a1)
  | .tbnY1 q d1 => .one .tbn q (.xr1 d1)
  | .tbnY2 q d1 => .one .tbn q (.xr2 d1)
  | .tbfY0 q a1 => .one .tbf q (.direct a1)
  | .tbfY1 q d1 => .one .tbf q (.xr1 d1)
  | .tbfY2 q d1 => .one .tbf q (.xr2 d1)
  | .bcZ0 q a1 => .addr .bc q (.direct a1)
  | .bcZ1 q d1 => .addr .bc q (.xr1 d1)
  | .bcZ2 q d1 => .addr .bc q (.xr2 d1)
  | .jc q r => .cmd .jc q r
  | .lpmr q r => .cmd .lpmr q r
  | .svc q r => .cmd .svc q r

/-- The instruction of a form (R119): the inverse of `Instr.form`. -/
def Form.instr : Form → Instr
  | .two .zaz q (.direct a1) (.direct a2) => .zazX00 q a1 a2
  | .two .zaz q (.direct a1) (.xr1 d2) => .zazX01 q a1 d2
  | .two .zaz q (.direct a1) (.xr2 d2) => .zazX02 q a1 d2
  | .two .zaz q (.xr1 d1) (.direct a2) => .zazX10 q d1 a2
  | .two .zaz q (.xr1 d1) (.xr1 d2) => .zazX11 q d1 d2
  | .two .zaz q (.xr1 d1) (.xr2 d2) => .zazX12 q d1 d2
  | .two .zaz q (.xr2 d1) (.direct a2) => .zazX20 q d1 a2
  | .two .zaz q (.xr2 d1) (.xr1 d2) => .zazX21 q d1 d2
  | .two .zaz q (.xr2 d1) (.xr2 d2) => .zazX22 q d1 d2
  | .two .az q (.direct a1) (.direct a2) => .azX00 q a1 a2
  | .two .az q (.direct a1) (.xr1 d2) => .azX01 q a1 d2
  | .two .az q (.direct a1) (.xr2 d2) => .azX02 q a1 d2
  | .two .az q (.xr1 d1) (.direct a2) => .azX10 q d1 a2
  | .two .az q (.xr1 d1) (.xr1 d2) => .azX11 q d1 d2
  | .two .az q (.xr1 d1) (.xr2 d2) => .azX12 q d1 d2
  | .two .az q (.xr2 d1) (.direct a2) => .azX20 q d1 a2
  | .two .az q (.xr2 d1) (.xr1 d2) => .azX21 q d1 d2
  | .two .az q (.xr2 d1) (.xr2 d2) => .azX22 q d1 d2
  | .two .sz q (.direct a1) (.direct a2) => .szX00 q a1 a2
  | .two .sz q (.direct a1) (.xr1 d2) => .szX01 q a1 d2
  | .two .sz q (.direct a1) (.xr2 d2) => .szX02 q a1 d2
  | .two .sz q (.xr1 d1) (.direct a2) => .szX10 q d1 a2
  | .two .sz q (.xr1 d1) (.xr1 d2) => .szX11 q d1 d2
  | .two .sz q (.xr1 d1) (.xr2 d2) => .szX12 q d1 d2
  | .two .sz q (.xr2 d1) (.direct a2) => .szX20 q d1 a2
  | .two .sz q (.xr2 d1) (.xr1 d2) => .szX21 q d1 d2
  | .two .sz q (.xr2 d1) (.xr2 d2) => .szX22 q d1 d2
  | .two .alc q (.direct a1) (.direct a2) => .alcX00 q a1 a2
  | .two .alc q (.direct a1) (.xr1 d2) => .alcX01 q a1 d2
  | .two .alc q (.direct a1) (.xr2 d2) => .alcX02 q a1 d2
  | .two .alc q (.xr1 d1) (.direct a2) => .alcX10 q d1 a2
  | .two .alc q (.xr1 d1) (.xr1 d2) => .alcX11 q d1 d2
  | .two .alc q (.xr1 d1) (.xr2 d2) => .alcX12 q d1 d2
  | .two .alc q (.xr2 d1) (.direct a2) => .alcX20 q d1 a2
  | .two .alc q (.xr2 d1) (.xr1 d2) => .alcX21 q d1 d2
  | .two .alc q (.xr2 d1) (.xr2 d2) => .alcX22 q d1 d2
  | .two .slc q (.direct a1) (.direct a2) => .slcX00 q a1 a2
  | .two .slc q (.direct a1) (.xr1 d2) => .slcX01 q a1 d2
  | .two .slc q (.direct a1) (.xr2 d2) => .slcX02 q a1 d2
  | .two .slc q (.xr1 d1) (.direct a2) => .slcX10 q d1 a2
  | .two .slc q (.xr1 d1) (.xr1 d2) => .slcX11 q d1 d2
  | .two .slc q (.xr1 d1) (.xr2 d2) => .slcX12 q d1 d2
  | .two .slc q (.xr2 d1) (.direct a2) => .slcX20 q d1 a2
  | .two .slc q (.xr2 d1) (.xr1 d2) => .slcX21 q d1 d2
  | .two .slc q (.xr2 d1) (.xr2 d2) => .slcX22 q d1 d2
  | .one .a q (.direct a1) => .aY0 q a1
  | .one .a q (.xr1 d1) => .aY1 q d1
  | .one .a q (.xr2 d1) => .aY2 q d1
  | .two .mvx q (.direct a1) (.direct a2) => .mvxX00 q a1 a2
  | .two .mvx q (.direct a1) (.xr1 d2) => .mvxX01 q a1 d2
  | .two .mvx q (.direct a1) (.xr2 d2) => .mvxX02 q a1 d2
  | .two .mvx q (.xr1 d1) (.direct a2) => .mvxX10 q d1 a2
  | .two .mvx q (.xr1 d1) (.xr1 d2) => .mvxX11 q d1 d2
  | .two .mvx q (.xr1 d1) (.xr2 d2) => .mvxX12 q d1 d2
  | .two .mvx q (.xr2 d1) (.direct a2) => .mvxX20 q d1 a2
  | .two .mvx q (.xr2 d1) (.xr1 d2) => .mvxX21 q d1 d2
  | .two .mvx q (.xr2 d1) (.xr2 d2) => .mvxX22 q d1 d2
  | .two .mvc q (.direct a1) (.direct a2) => .mvcX00 q a1 a2
  | .two .mvc q (.direct a1) (.xr1 d2) => .mvcX01 q a1 d2
  | .two .mvc q (.direct a1) (.xr2 d2) => .mvcX02 q a1 d2
  | .two .mvc q (.xr1 d1) (.direct a2) => .mvcX10 q d1 a2
  | .two .mvc q (.xr1 d1) (.xr1 d2) => .mvcX11 q d1 d2
  | .two .mvc q (.xr1 d1) (.xr2 d2) => .mvcX12 q d1 d2
  | .two .mvc q (.xr2 d1) (.direct a2) => .mvcX20 q d1 a2
  | .two .mvc q (.xr2 d1) (.xr1 d2) => .mvcX21 q d1 d2
  | .two .mvc q (.xr2 d1) (.xr2 d2) => .mvcX22 q d1 d2
  | .two .ed q (.direct a1) (.direct a2) => .edX00 q a1 a2
  | .two .ed q (.direct a1) (.xr1 d2) => .edX01 q a1 d2
  | .two .ed q (.direct a1) (.xr2 d2) => .edX02 q a1 d2
  | .two .ed q (.xr1 d1) (.direct a2) => .edX10 q d1 a2
  | .two .ed q (.xr1 d1) (.xr1 d2) => .edX11 q d1 d2
  | .two .ed q (.xr1 d1) (.xr2 d2) => .edX12 q d1 d2
  | .two .ed q (.xr2 d1) (.direct a2) => .edX20 q d1 a2
  | .two .ed q (.xr2 d1) (.xr1 d2) => .edX21 q d1 d2
  | .two .ed q (.xr2 d1) (.xr2 d2) => .edX22 q d1 d2
  | .two .itc q (.direct a1) (.direct a2) => .itcX00 q a1 a2
  | .two .itc q (.direct a1) (.xr1 d2) => .itcX01 q a1 d2
  | .two .itc q (.direct a1) (.xr2 d2) => .itcX02 q a1 d2
  | .two .itc q (.xr1 d1) (.direct a2) => .itcX10 q d1 a2
  | .two .itc q (.xr1 d1) (.xr1 d2) => .itcX11 q d1 d2
  | .two .itc q (.xr1 d1) (.xr2 d2) => .itcX12 q d1 d2
  | .two .itc q (.xr2 d1) (.direct a2) => .itcX20 q d1 a2
  | .two .itc q (.xr2 d1) (.xr1 d2) => .itcX21 q d1 d2
  | .two .itc q (.xr2 d1) (.xr2 d2) => .itcX22 q d1 d2
  | .one .mvi q (.direct a1) => .mviY0 q a1
  | .one .mvi q (.xr1 d1) => .mviY1 q d1
  | .one .mvi q (.xr2 d1) => .mviY2 q d1
  | .one .sbn q (.direct a1) => .sbnY0 q a1
  | .one .sbn q (.xr1 d1) => .sbnY1 q d1
  | .one .sbn q (.xr2 d1) => .sbnY2 q d1
  | .one .sbf q (.direct a1) => .sbfY0 q a1
  | .one .sbf q (.xr1 d1) => .sbfY1 q d1
  | .one .sbf q (.xr2 d1) => .sbfY2 q d1
  | .one .st q (.direct a1) => .stY0 q a1
  | .one .st q (.xr1 d1) => .stY1 q d1
  | .one .st q (.xr2 d1) => .stY2 q d1
  | .one .l q (.direct a1) => .lY0 q a1
  | .one .l q (.xr1 d1) => .lY1 q d1
  | .one .l q (.xr2 d1) => .lY2 q d1
  | .addr .la q (.direct a1) => .laZ0 q a1
  | .addr .la q (.xr1 d1) => .laZ1 q d1
  | .addr .la q (.xr2 d1) => .laZ2 q d1
  | .one .cli q (.direct a1) => .cliY0 q a1
  | .one .cli q (.xr1 d1) => .cliY1 q d1
  | .one .cli q (.xr2 d1) => .cliY2 q d1
  | .two .clc q (.direct a1) (.direct a2) => .clcX00 q a1 a2
  | .two .clc q (.direct a1) (.xr1 d2) => .clcX01 q a1 d2
  | .two .clc q (.direct a1) (.xr2 d2) => .clcX02 q a1 d2
  | .two .clc q (.xr1 d1) (.direct a2) => .clcX10 q d1 a2
  | .two .clc q (.xr1 d1) (.xr1 d2) => .clcX11 q d1 d2
  | .two .clc q (.xr1 d1) (.xr2 d2) => .clcX12 q d1 d2
  | .two .clc q (.xr2 d1) (.direct a2) => .clcX20 q d1 a2
  | .two .clc q (.xr2 d1) (.xr1 d2) => .clcX21 q d1 d2
  | .two .clc q (.xr2 d1) (.xr2 d2) => .clcX22 q d1 d2
  | .one .tbn q (.direct a1) => .tbnY0 q a1
  | .one .tbn q (.xr1 d1) => .tbnY1 q d1
  | .one .tbn q (.xr2 d1) => .tbnY2 q d1
  | .one .tbf q (.direct a1) => .tbfY0 q a1
  | .one .tbf q (.xr1 d1) => .tbfY1 q d1
  | .one .tbf q (.xr2 d1) => .tbfY2 q d1
  | .addr .bc q (.direct a1) => .bcZ0 q a1
  | .addr .bc q (.xr1 d1) => .bcZ1 q d1
  | .addr .bc q (.xr2 d1) => .bcZ2 q d1
  | .cmd .jc q r => .jc q r
  | .cmd .lpmr q r => .lpmr q r
  | .cmd .svc q r => .svc q r

/-! ## The op byte -/

/-- The addressing a 2-bit group of the op byte stands for; none for 11, "this operand is absent" (R111). -/
def modeOf (g : BitVec 2) : Option Mode :=
  match g with
  | 0#2 => some .direct
  | 1#2 => some .xr1
  | 2#2 => some .xr2
  | _ => none

/-- The type X column of R117. -/
def twoOpOf (n : BitVec 4) : Option TwoOp :=
  match n with
  | 0x4#4 => some .zaz
  | 0x6#4 => some .az
  | 0x7#4 => some .sz
  | 0x8#4 => some .mvx
  | 0xA#4 => some .ed
  | 0xB#4 => some .itc
  | 0xC#4 => some .mvc
  | 0xD#4 => some .clc
  | 0xE#4 => some .alc
  | 0xF#4 => some .slc
  | _ => none

/-- The type Y column of R117. -/
def oneOpOf (n : BitVec 4) : Option OneOp :=
  match n with
  | 0x4#4 => some .st
  | 0x5#4 => some .l
  | 0x6#4 => some .a
  | 0x8#4 => some .tbn
  | 0x9#4 => some .tbf
  | 0xA#4 => some .sbn
  | 0xB#4 => some .sbf
  | 0xC#4 => some .mvi
  | 0xD#4 => some .cli
  | _ => none

/-- The type Z column of R117. -/
def addrOpOf (n : BitVec 4) : Option AddrOp :=
  match n with
  | 0x0#4 => some .bc
  | 0x2#4 => some .la
  | _ => none

/-- The type F column of R117. -/
def cmdOpOf (n : BitVec 4) : Option CmdOp :=
  match n with
  | 0x2#4 => some .jc
  | 0x4#4 => some .svc
  | 0x6#4 => some .lpmr
  | _ => none

/-- What the op byte says (R111, R117); none for the 130 values of R128. Bits 0-1 are the first group,
bits 2-3 the second, bits 4-7 the operation. -/
def headerOf (op : Byte) : Option Header :=
  match modeOf (op.extractLsb' 6 2), modeOf (op.extractLsb' 4 2) with
  | some m1, some m2 => (twoOpOf (num op)).map fun o => .two o m1 m2
  | some m, none => (oneOpOf (num op)).map fun o => .one o m
  | none, some m => (addrOpOf (num op)).map fun o => .addr o m
  | none, none => (cmdOpOf (num op)).map fun o => .cmd o

/-- The 2-bit group of an addressing (R111). -/
def Mode.code : Mode → BitVec 2
  | .direct => 0
  | .xr1 => 1
  | .xr2 => 2

/-- The low half-byte of a two-address operation (R117). -/
def TwoOp.code : TwoOp → BitVec 4
  | .zaz => 0x4 | .az => 0x6 | .sz => 0x7 | .mvx => 0x8 | .ed => 0xA
  | .itc => 0xB | .mvc => 0xC | .clc => 0xD | .alc => 0xE | .slc => 0xF

/-- The low half-byte of a type Y operation (R117). -/
def OneOp.code : OneOp → BitVec 4
  | .st => 0x4 | .l => 0x5 | .a => 0x6 | .tbn => 0x8 | .tbf => 0x9
  | .sbn => 0xA | .sbf => 0xB | .mvi => 0xC | .cli => 0xD

/-- The low half-byte of a type Z operation (R117). -/
def AddrOp.code : AddrOp → BitVec 4
  | .bc => 0x0 | .la => 0x2

/-- The low half-byte of a command (R117). -/
def CmdOp.code : CmdOp → BitVec 4
  | .jc => 0x2 | .svc => 0x4 | .lpmr => 0x6

/-- The op byte of a header (R111, R117, R119). -/
def Header.opByte : Header → Byte
  | .two op m1 m2 => m1.code ++ m2.code ++ op.code
  | .one op m => m.code ++ 3#2 ++ op.code
  | .addr op m => 3#2 ++ m.code ++ op.code
  | .cmd op => 0xF#4 ++ op.code

/-! ## Decoding -/

/-- Why a byte string is no instruction. -/
inductive DecodeError where
  /-- the first byte is one of the 130 undefined op codes (R128) -/
  | undefinedOp (op : Byte)
  /-- the string ends inside the instruction -/
  | truncated
  deriving DecidableEq, Repr

/-- What decoding answers: an instruction and the bytes after it, or the reason there is none. -/
inductive Decoded where
  | ok (i : Instr) (rest : List Byte)
  | bad (e : DecodeError)
  deriving DecidableEq, Repr

/-- One operand of the given addressing from the bytes after the Q-byte, high-order byte first (R115). -/
def takeOperand : Mode → List Byte → Option (Operand × List Byte)
  | .direct, h :: l :: rest => some (.direct (join h l), rest)
  | .xr1, d :: rest => some (.xr1 d, rest)
  | .xr2, d :: rest => some (.xr2 d, rest)
  | _, _ => none

/-- The operands of an instruction whose op byte says `h`, and the bytes after it (R115). -/
def decodeOperands (h : Header) (q : Byte) (bytes : List Byte) : Option (Form × List Byte) :=
  match h with
  | .two op m1 m2 =>
    match takeOperand m1 bytes with
    | some (o1, rest) =>
      match takeOperand m2 rest with
      | some (o2, rest) => some (.two op q o1 o2, rest)
      | none => none
    | none => none
  | .one op m =>
    match takeOperand m bytes with
    | some (o, rest) => some (.one op q o, rest)
    | none => none
  | .addr op m =>
    match takeOperand m bytes with
    | some (o, rest) => some (.addr op q o, rest)
    | none => none
  | .cmd op =>
    match bytes with
    | r :: rest => some (.cmd op q r, rest)
    | [] => none

/-- The instruction at the head of a byte string (R110-R119, R128): total, and it rejects by name. -/
def decode : List Byte → Decoded
  | [] => .bad .truncated
  | op :: rest =>
    match headerOf op with
    | none => .bad (.undefinedOp op)
    | some h =>
      match rest with
      | [] => .bad .truncated
      | q :: rest =>
        match decodeOperands h q rest with
        | some (f, rest) => .ok f.instr rest
        | none => .bad .truncated

/-! ## Encoding -/

/-- The addressing of an operand (R111). -/
def Operand.mode : Operand → Mode
  | .direct _ => .direct
  | .xr1 _ => .xr1
  | .xr2 _ => .xr2

/-- The bytes of an operand, high-order byte first (R115). -/
def Operand.bytes : Operand → List Byte
  | .direct a => [hi a, lo a]
  | .xr1 d => [d]
  | .xr2 d => [d]

/-- The op byte's header of a form (R111). -/
def Form.header : Form → Header
  | .two op _ o1 o2 => .two op o1.mode o2.mode
  | .one op _ o => .one op o.mode
  | .addr op _ o => .addr op o.mode
  | .cmd op _ _ => .cmd op

/-- The Q-byte of a form (R110). -/
def Form.qByte : Form → Byte
  | .two _ q _ _ => q
  | .one _ q _ => q
  | .addr _ q _ => q
  | .cmd _ q _ => q

/-- The bytes after the Q-byte (R115). -/
def Form.operandBytes : Form → List Byte
  | .two _ _ o1 o2 => o1.bytes ++ o2.bytes
  | .one _ _ o => o.bytes
  | .addr _ _ o => o.bytes
  | .cmd _ _ r => [r]

/-- The bytes of an instruction (R110, R115). -/
def encode (i : Instr) : List Byte :=
  i.form.header.opByte :: i.form.qByte :: i.form.operandBytes

/-! ## The host's question -/

/-- Byte `k` of an instruction whose bits are numbered from the least significant bit of its first byte. -/
def tableByte (w k : Nat) : Byte := BitVec.ofNat 8 (w / 256 ^ k)

/-- The six bytes (the longest instruction, R114) of the low `nbits` bits of `w`, the rest zero. -/
def tableBytes (nbits w : Nat) : List Byte :=
  [0, 1, 2, 3, 4, 5].map (tableByte (w % 2 ^ nbits))

/-- The instruction the decoder reads from an instruction whose bits are `w`, numbered as
spec/opcode_table.json numbers them. -/
def decodeTableWord (nbits w : Nat) : Option Instr :=
  match decode (tableBytes nbits w) with
  | .ok i _ => some i
  | .bad _ => none

end Sys2Proof
end

