-- ==== Sys2Proof/Machine/State.lean ====
section
/-! DEFINITION. The machine's state as plain data (spec/10_state.md R20-R58), the events at which the MSP
stops (spec/60_exceptions.md R282), the actions of the control processor (R297), the reasons a step can
answer no next state, and the state after reset. -/

namespace Sys2Proof.Machine

/-- The kind of a storage access (spec/20_memory.md R80). -/
inductive Kind where
  /-- an instruction byte, address from the IAR -/
  | i
  /-- an operand 1 byte, address from LSR 8 -/
  | op1
  /-- an operand 2 byte, address from LSR 9 -/
  | op2
  deriving DecidableEq, Repr

/-- The hardware checks the status bytes name (spec/10_state.md R48, R49). -/
inductive CheckKind where
  | controlGate | lsrGate | storageGate | address
  /-- a main storage address register parity check, which status byte 3 shows (R49, R283) -/
  | msarParity
  deriving DecidableEq, Repr

/-- The events that stop the MSP and request interrupt level 5 (R282). -/
inductive StopEvent where
  /-- `StorageException(protect)` at a logical address (R285, R287) -/
  | protect (la : Word)
  /-- `StorageException(pmr-alter)` (R286) -/
  | pmrAlter
  /-- `InvalidAddress` at a logical address (R288) -/
  | invalidAddress (la : Word)
  /-- `NonexecutableOp` (R289) -/
  | nonexecutableOp (op : Byte)
  /-- `SupervisorCall(Q, R)` (spec/43_command.md R265) -/
  | supervisorCall (q r : Byte)
  /-- `AddressCompareStop` (R299) -/
  | addressCompare
  /-- a hardware check injected from outside (R294, U21) -/
  | hardwareCheck (k : CheckKind)
  deriving DecidableEq, Repr

/-- What the control processor can do to the MSP while its clock is inhibited or stopped (R297, R298), and
two entries that say when (log 7). -/
inductive HostAction where
  /-- load a local storage register -/
  | loadLsr (n : Fin 16) (v : Word)
  /-- load the PSR -/
  | loadPsr (b : Byte)
  /-- load the PMR (WMPR, R40) -/
  | loadPmr (b : Byte)
  /-- load an address translation register (R41) -/
  | loadAtr (n : Fin 64) (b : Byte)
  /-- load the control mode register (R42) -/
  | loadCmr (b : Byte)
  /-- load the backup mode register (R43) -/
  | loadBmr (b : Byte)
  /-- load the configuration control register (R44) -/
  | loadCcr (b : Byte)
  /-- load the address compare register (R45) -/
  | loadAcr (a : RealAddr)
  /-- load status byte 1 (R47) -/
  | loadStatusByte1 (b : Byte)
  /-- reset status byte 3 (R49) -/
  | resetStatusByte3
  /-- take the level 5 request (R303) -/
  | acceptLevel5
  /-- write a byte of main storage under the CMR (R88) -/
  | writeStorage (a : Word) (b : Byte)
  /-- read a byte of main storage under the CMR (R88) -/
  | readStorage (a : Word)
  /-- sense an MSP register (RMPR): the MSAR is loaded to address it (R37) -/
  | senseRegister
  /-- the control processor's own side sets its processor error byte: a check of R300 that is none of main
  storage's, or a reset of the byte (log 30) -/
  | setProcessorError (b : Byte)
  /-- system reset (spec/70_reset_and_hazards.md R320) -/
  | systemReset
  /-- set the CE panel's address-stop switches (R299) -/
  | setAddressStop (on : Bool)
  /-- a hardware check occurs (R294, U21) -/
  | injectCheck (k : CheckKind)
  /-- let the MSP run until its clock is stopped -/
  | awaitStop
  /-- let the MSP run one instruction -/
  | letInstruction
  deriving DecidableEq, Repr

/-- The machine's state. Each field's docstring gives its name in the spec and its rule. -/
structure State where
  /-- LSR 0 to 7, reserved (R20) -/
  lsrReserved : Vector Word 8
  /-- LSR 8, operand 1 address (R24) -/
  lsr8 : Word
  /-- LSR 9, operand 2 address (R24) -/
  lsr9 : Word
  /-- LSR 10, instruction address register (R21, R25) -/
  iar : Word
  /-- LSR 11 high byte, the op code (R20, R30) -/
  lsr11Op : Byte
  /-- LSR 11 low byte, the Q-byte (R20, R31) -/
  lsr11Q : Byte
  /-- LSR 12, index register 1 (R22) -/
  xr1 : Word
  /-- LSR 13, index register 2 (R22) -/
  xr2 : Word
  /-- LSR 14, address recall register (R23) -/
  arr : Word
  /-- LSR 15 high byte, length count recall register (R29) -/
  lcrr : Byte
  /-- LSR 15 low byte, the LSR copy of the PSR (R29) -/
  psrLsr : Byte
  /-- program status register, the program status byte (R26) -/
  psr : Byte
  /-- program mode register (R40) -/
  pmr : Byte
  /-- operation register (R30) -/
  opReg : Byte
  /-- Q-register (R31) -/
  qReg : Byte
  /-- Q-backup register (R31) -/
  qBackup : Byte
  /-- X-high register (R32) -/
  xHigh : Byte
  /-- X-low register (R32) -/
  xLow : Byte
  /-- Y-register (R32) -/
  y : Byte
  /-- main storage address register (R37) -/
  msar : Word
  /-- first cycle latch (R38) -/
  firstCycle : Bool
  /-- complement latch (R38) -/
  complement : Bool
  /-- recomplement latch (R38) -/
  recomplement : Bool
  /-- carry trigger (R38) -/
  carry : Bool
  /-- step mode latch (R38, R47) -/
  stepMode : Bool
  /-- clock run latch (R38, R47) -/
  clockRun : Bool
  /-- the clock time status byte 0 shows (R46) -/
  clock : ClockTime
  /-- address translation registers: 0-31 task, 32-63 I/O (R41) -/
  atr : Vector Byte 64
  /-- control mode register (R42) -/
  cmr : Byte
  /-- backup mode register (R43) -/
  bmr : Byte
  /-- configuration control register (R44) -/
  ccr : Byte
  /-- address compare register (R45) -/
  acr : RealAddr
  /-- status byte 2 bit 0, nonexecutable instruction (R48) -/
  nonexecutable : Bool
  /-- control gate check, status byte 2 (R48) -/
  controlGateCheck : Bool
  /-- local storage register gate check, status byte 2 (R48) -/
  lsrGateCheck : Bool
  /-- main storage gate check, status byte 2 (R48) -/
  storageGateCheck : Bool
  /-- main storage processor address check (R48, R294) -/
  addressCheck : Bool
  /-- status byte 3 (R49) -/
  sb3 : Byte
  /-- the control processor's processor error byte (R300) -/
  processorError : Byte
  /-- the interrupt level 5 request line (R281, R303) -/
  level5 : Bool
  /-- main storage by physical address (R52), in the canonical form of `Memory.wf` -/
  mem : List Host.Cell
  /-- the CE panel's address-stop switches (R299) -/
  ceAddressStop : Bool
  /-- the installation parameters (R7) -/
  cfg : Params
  /-- the model's own: the event of the last stop, R281's `Stopped(E, info)` (log 5) -/
  stopped : Option StopEvent
  /-- the model's own: an access of this instruction met the address compare (log 28) -/
  compareHit : Bool
  /-- the model's own: selects the next free value (log 8) -/
  freeCount : Nat
  /-- the model's own: the pending actions of the control processor (log 7) -/
  host : List HostAction
  deriving DecidableEq, Repr

/-- Why a step faults. -/
inductive Fault where
  /-- Raised by `step` when the MSP clock is stopped and no control-processor action is pending: the model
  is stuck in `Stopped` (decision D17, U14). Safe: the machine goes on only if the host makes it (log 6). -/
  | clockStopped
  deriving DecidableEq, Repr

/-- Why a step has no meaning. -/
inductive Refusal where
  /-- Raised by an arm of `exec` for an instruction that has no meaning yet; no arm does. Safe. -/
  | notModelled (mnemonic : String)
  /-- Raised by `ST`, `L` and `A` with a reserved register-select Q-byte: `UndefinedQ` (R129, D5). Safe:
  the hardware does something the spec does not describe (log 13). -/
  | undefinedQ (q : Byte)
  deriving DecidableEq, Repr

/-- The machine right after reset: the PSR is hex 01 (R57); every other field is at the value the
assumption log names (log 1, 2, 3, 4), with the clock stopped as R58 presumes. -/
def State.reset : State where
  lsrReserved := Vector.replicate 8 0
  lsr8 := 0
  lsr9 := 0
  iar := 0
  lsr11Op := 0
  lsr11Q := 0
  xr1 := 0
  xr2 := 0
  arr := 0
  lcrr := 0
  psrLsr := 0
  psr := 0x01
  pmr := 0
  opReg := 0
  qReg := 0
  qBackup := 0
  xHigh := 0
  xLow := 0
  y := 0
  msar := 0
  firstCycle := false
  complement := false
  recomplement := false
  carry := false
  stepMode := false
  clockRun := false
  clock := ⟨.op, .a⟩
  atr := Vector.replicate 64 0
  cmr := 0
  bmr := 0
  ccr := 0
  acr := 0
  nonexecutable := false
  controlGateCheck := false
  lsrGateCheck := false
  storageGateCheck := false
  addressCheck := false
  sb3 := 0
  processorError := 0
  level5 := false
  mem := []
  ceAddressStop := false
  cfg := Params.default
  stopped := none
  compareHit := false
  freeCount := 0
  host := []

end Sys2Proof.Machine
end

