-- ==== Sys2Proof/Machine/Ops.lean ====
section
/-! DEFINITION. The shared operations of the machine: address translation and the checks of one access
(spec/20_memory.md R80-R89), one-byte reads and writes, stopping on an event and starting the clock again
(spec/60_exceptions.md R281, R283, R293), the operand pointers and the byte loop. -/

namespace Sys2Proof.Machine

/-- The answer of an operation that may stop the MSP: a value and the state to go on from, or the state at
the stop (R281: nothing after the failing access happens, and what was done stays, R96). -/
inductive Res (α : Type) where
  | ok (a : α) (s : State)
  | stop (s : State)

/-- Go on with `f` unless the MSP has stopped. -/
def Res.bind {α β : Type} (r : Res α) (f : α → State → Res β) : Res β :=
  match r with
  | .ok a s => f a s
  | .stop s => .stop s

/-- The state an operation leaves, completed or stopped. -/
def Res.state {α : Type} : Res α → State
  | .ok _ s => s
  | .stop s => s

/-- The outcomes of an instruction. -/
abbrev Result := Host.Outcome State Fault Refusal

/-- An instruction whose operations answered `r` goes on to the state `r` leaves: the completed one, or the
one at the stop (R281, R292; log 5). -/
def Res.outcome {α : Type} (r : Res α) : Result := .next r.state

/-- The byte loop of the length-controlled instructions: `body` for the cycles `i`, `i + 1`, … , `n` of
them, each given what the one before answered (R73, R90). -/
def loop {α : Type} (body : Nat → α → State → Res α) : Nat → Nat → α → State → Res α
  | 0, _, a, s => .ok a s
  | n + 1, i, a, s => (body i a s).bind fun a s => loop body n (i + 1) a s

/-! ## Stopping and starting (R281, R283, R293) -/

/-- The bits of status byte 3 an event sets (R283). -/
def StopEvent.sb3Bits : StopEvent → Byte
  | .invalidAddress _ => 0x02
  | .protect _ => 0x01
  | .pmrAlter => 0x01
  | .nonexecutableOp _ => 0x00
  | .supervisorCall _ _ => 0x00
  | .addressCompare => 0x00
  | .hardwareCheck .msarParity => 0x03
  | .hardwareCheck .controlGate => 0x00
  | .hardwareCheck .lsrGate => 0x00
  | .hardwareCheck .storageGate => 0x00
  | .hardwareCheck .address => 0x00

/-- The event sets status byte 2 bit 0 (R283). -/
def StopEvent.setsNonexecutable : StopEvent → Bool
  | .nonexecutableOp _ => true
  | .supervisorCall _ _ => true
  | .invalidAddress _ => false
  | .protect _ => false
  | .pmrAlter => false
  | .addressCompare => false
  | .hardwareCheck _ => false

/-- `raise E(info)` (R281): the event is recorded in the status bytes (R283), the MSP clock stops, and
interrupt level 5 is requested. The clock time it stops at is a free value (log 11). -/
def State.stop (s : State) (e : StopEvent) : State :=
  { s with
    sb3 := s.sb3 ||| e.sb3Bits
    nonexecutable := s.nonexecutable || e.setsNonexecutable
    clockRun := false
    level5 := true
    stopped := some e
    clock := Config.freeClock s.freeCount
    freeCount := s.freeCount + 1 }

/-- The control processor starts the clock: the MSP resumes by fetching at the IAR (R293; log 33). -/
def State.startClock (s : State) : State :=
  { s with clockRun := true, stopped := none, clock := ⟨.op, .a⟩ }

/-! ## Translation and checks (R80-R87) -/

/-- The PMR bit of the access kind is on: the address is translated (R80). -/
def State.translates (s : State) : Kind → Bool
  | .i => ibmBit s.pmr 4
  | .op2 => ibmBit s.pmr 5
  | .op1 => ibmBit s.pmr 6

/-- PMR bit 7: the task is not privileged (R40, R296). -/
def State.nonprivileged (s : State) : Bool := ibmBit s.pmr 7

/-- `la[0:4]`: which of a set of 32 ATRs a logical address selects (R81). -/
def atrIndex (la : Word) : Fin 32 := (la.extractLsb' 11 5).toFin

/-- The task ATR of a logical address (R80, R81). -/
def State.taskAtr (s : State) (la : Word) : Byte := s.atr.get (Fin.castLE (by decide) (atrIndex la))

/-- `a[0:1] != 0`: the ATR protects its page (R80, R84, decision D21). -/
def atrProtects (a : Byte) : Bool := a.extractLsb' 6 2 != 0

/-- `a[2:7] ++ la[5:15]`: the translated real address (R80, R81). -/
def atrReal (a : Byte) (la : Word) : RealAddr := a.extractLsb' 0 6 ++ la.extractLsb' 0 11

/-- The real address exists (R86). -/
def State.inStorage (s : State) (ra : RealAddr) : Bool := decide (ra.toNat < s.cfg.size.bytes)

/-- The size check of an access to `la` at the real address `ra` (R86). -/
def State.checkSize (s : State) (la : Word) (ra : RealAddr) : Except StopEvent RealAddr :=
  if s.inStorage ra then .ok ra else .error (.invalidAddress la)

/-- `real(kind, la)` of R80, with the order of checks of R87. -/
def State.realOf (s : State) (k : Kind) (la : Word) : Except StopEvent RealAddr :=
  if s.translates k then
    if atrProtects (s.taskAtr la) then .error (.protect la)
    else s.checkSize la (atrReal (s.taskAtr la) la)
  else s.checkSize la (la.setWidth 17)

/-- The first 8K physical addresses (R75, R85). -/
def inFirst8K (ra : RealAddr) : Bool := decide (ra.toNat < 0x2000)

/-- The real address a read goes to, or the event it raises (`MemRead` of R80). -/
def State.readCheck (s : State) (k : Kind) (la : Word) : Except StopEvent RealAddr :=
  match s.realOf k la with
  | .ok ra => if s.cfg.lowReadFaults && s.nonprivileged && inFirst8K ra then .error (.protect la) else .ok ra
  | .error e => .error e

/-- The real address a write goes to, or the event it raises (`MemWrite` of R80, R85). -/
def State.writeCheck (s : State) (k : Kind) (la : Word) : Except StopEvent RealAddr :=
  match s.realOf k la with
  | .ok ra => if s.nonprivileged && inFirst8K ra then .error (.protect la) else .ok ra
  | .error e => .error e

/-! ## Storage -/

/-- The card switch of BMR bit 6: the two lowest 16K blocks change places (R43, R89). -/
def cardSwap (n : Nat) : Nat :=
  if n < 0x4000 then n + 0x4000 else if n < 0x8000 then n - 0x4000 else n

/-- The physical cell of a real address (R89). -/
def State.cell (s : State) (ra : RealAddr) : Nat :=
  if ibmBit s.bmr 6 then cardSwap ra.toNat else ra.toNat

/-- The byte at a real address. -/
def State.byteAt (s : State) (ra : RealAddr) : Byte := Memory.read s.mem (s.cell ra)

/-- Store a byte at a real address. -/
def State.putByte (s : State) (ra : RealAddr) (b : Byte) : State :=
  { s with mem := Memory.write s.mem (s.cell ra) b }

/-- The logical address enters the MSAR (R37). -/
def State.setMsar (s : State) (la : Word) : State := { s with msar := la }

/-- The address compare looks at an access that is made, with the function of CCR bits 0-3 (R44, R45, R299;
log 28). Accesses of the control processor do not come here (DESIGN CHOICE, log 64). -/
def State.compare (s : State) (la : Word) (ra : RealAddr) : State :=
  { s with compareHit :=
      s.compareHit || (s.ceAddressStop && Config.addressCompares (zone s.ccr) s.acr la ra) }

/-- `MemRead(kind, la, 1)` (R80). -/
def State.readAt (s : State) (k : Kind) (la : Word) : Res Byte :=
  match s.readCheck k la with
  | .ok ra => .ok (s.byteAt ra) ((s.setMsar la).compare la ra)
  | .error e => .stop ((s.setMsar la).stop e)

/-- `MemWrite(kind, la, 1, b)` (R80). -/
def State.writeAt (s : State) (k : Kind) (la : Word) (b : Byte) : Res Unit :=
  match s.writeCheck k la with
  | .ok ra => .ok () (((s.setMsar la).compare la ra).putByte ra b)
  | .error e => .stop ((s.setMsar la).stop e)

/-! ## Operand pointers (R24, R73): LSR 8 and LSR 9 step after the byte has been accessed.
DESIGN CHOICE: the step leaves the carry trigger as it was (log 67). -/

/-- LSR 8 to the next byte on the left. -/
def State.downOp1 (s : State) : State := { s with lsr8 := s.lsr8 - 1 }

/-- LSR 8 to the next byte on the right (`ITC`, R73). -/
def State.upOp1 (s : State) : State := { s with lsr8 := s.lsr8 + 1 }

/-- LSR 9 to the next byte on the left. -/
def State.downOp2 (s : State) : State := { s with lsr9 := s.lsr9 - 1 }

/-- Read the operand 1 byte LSR 8 addresses. -/
def State.readOp1 (s : State) : Res Byte := s.readAt .op1 s.lsr8

/-- Read the operand 1 byte LSR 8 addresses and step LSR 8 down. -/
def State.takeOp1 (s : State) : Res Byte := s.readOp1.bind fun b s => .ok b s.downOp1

/-- Read the operand 2 byte LSR 9 addresses and step LSR 9 down. -/
def State.takeOp2 (s : State) : Res Byte := (s.readAt .op2 s.lsr9).bind fun b s => .ok b s.downOp2

/-- Write the operand 1 byte LSR 8 addresses. -/
def State.writeOp1 (s : State) (b : Byte) : Res Unit := s.writeAt .op1 s.lsr8 b

/-- Write the operand 1 byte LSR 8 addresses and step LSR 8 down. -/
def State.storeOp1 (s : State) (b : Byte) : Res Unit := (s.writeOp1 b).bind fun _ s => .ok () s.downOp1

/-! ## The Q-register and the latches -/

/-- The end of instruction fetch of an executable instruction with Q-byte `q` (R31, R38): the Q-byte stands
in the Q-register, Q-backup and LSR 11 low, 'first cycle' is set, the two complement latches are reset. -/
def State.enter (s : State) (q : Byte) : State :=
  { s with qReg := q, qBackup := q, lsr11Q := q, firstCycle := true, complement := false, recomplement := false }

/-- "Decrement Q-Register (not first cycle)" (spec/40_arithmetic.md R160; log 15). -/
def State.countQ (s : State) : State :=
  if s.firstCycle then s else { s with qReg := s.qReg - 1 }

/-- The two nibble counters of the decimal instructions: the low one counts down, then the high one
(R31, R151). -/
def countNibbles (q : Byte) : Byte := if num q != 0 then q - 0x01 else q - 0x10

/-- The decimal instructions' decrement of the Q-register, not in the first cycle (R151). -/
def State.countDecimalQ (s : State) : State :=
  if s.firstCycle then s else { s with qReg := countNibbles s.qReg }

/-- The end of a cycle of the byte loop resets 'first cycle' (R38). -/
def State.endCycle (s : State) : State := { s with firstCycle := false }

/-- Set the carry trigger (R38). -/
def State.setCarry (s : State) (c : Bool) : State := { s with carry := c }

/-- Set the 'complement' latch when `c` (R38). -/
def State.raiseComplement (s : State) (c : Bool) : State := { s with complement := s.complement || c }

/-! ## Registers -/

/-- Replace the program status byte. DESIGN CHOICE: its copy in LSR 15 low stays as it was, whichever instruction
sets the bits (log 68; only `L` and `A` with the PSR selected write the copy, R29) or the control processor loads
them (log 61). -/
def State.setPsr (s : State) (b : Byte) : State := { s with psr := b }

/-- Replace the IAR. -/
def State.setIar (s : State) (a : Word) : State := { s with iar := a }

/-- Replace the ARR. -/
def State.setArr (s : State) (a : Word) : State := { s with arr := a }

/-- The PMR keeps bits 0 and 4 to 7 (R40, decision D31). -/
def State.setPmr (s : State) (b : Byte) : State := { s with pmr := b &&& 0x8F }

end Sys2Proof.Machine
end

