-- ==== Sys2Proof/Machine/Operands.lean ====
section
/-! DEFINITION. Operand forms: effective addresses (spec/30_encoding.md R116), field lengths and register
selection from the Q-byte (R120-R125), and the registers an instruction can select. -/

namespace Sys2Proof.Machine

/-- The effective address of an operand (R116): direct, or an index register plus an unsigned
displacement, modulo 2^16 (decision D14). DESIGN CHOICE: the addition leaves the carry trigger as it was
(log 67). -/
def State.address (s : State) : Operand → Word
  | .direct a => a
  | .xr1 d => s.xr1 + d.setWidth 16
  | .xr2 d => s.xr2 + d.setWidth 16

/-- Instruction fetch of a two-address instruction leaves A1 in LSR 8 and A2 in LSR 9 (R24, R131). -/
def State.enterTwo (s : State) (q : Byte) (o1 o2 : Operand) : State :=
  { s.enter q with lsr8 := s.address o1, lsr9 := s.address o2 }

/-- Instruction fetch of a one-address instruction leaves A1 in LSR 8; LSR 9 keeps what it held (R24, R113). -/
def State.enterOne (s : State) (q : Byte) (o : Operand) : State :=
  { s.enter q with lsr8 := s.address o }

/-- Instruction fetch of a decimal instruction also loads A1 into the ARR, and its execution starts with carry 0
(R131, R153). -/
def State.enterDecimal (s : State) (q : Byte) (o1 o2 : Operand) : State :=
  { s.enterTwo q o1 o2 with arr := s.address o1, carry := false }

/-- `L = Q + 1`, the length of the fields of `MVC`, `ALC`, `SLC`, `CLC`, `ED`, `ITC` (R121). -/
def fieldLength (q : Byte) : Nat := q.toNat + 1

/-- `L2 = Q[4:7] + 1`, the length of a decimal operand 2 (R120). -/
def length2 (q : Byte) : Nat := (num q).toNat + 1

/-- `L1 = Q[0:3] + L2`, the length of a decimal operand 1 (R120). -/
def length1 (q : Byte) : Nat := (zone q).toNat + length2 q

/-- The registers a register-select Q-byte can name (R124). -/
inductive Reg where
  | xr1 | xr2 | psr | arr | iar
  deriving DecidableEq, Repr

/-- What a register-select Q-byte asks for (R124, R129). -/
inductive Select where
  /-- hex 00: "The system ignores (no-ops) the instruction." -/
  | ignored
  /-- one defined bit -/
  | reg (r : Reg)
  /-- reserved, or more than one bit -/
  | undefined
  deriving DecidableEq, Repr

/-- R124's table. -/
def selectOf (q : Byte) : Select :=
  match q with
  | 0x00#8 => .ignored
  | 0x01#8 => .reg .xr1
  | 0x02#8 => .reg .xr2
  | 0x04#8 => .reg .psr
  | 0x08#8 => .reg .arr
  | 0x10#8 => .reg .iar
  | 0x20#8 => .reg .iar
  | _ => .undefined

/-- The program status byte as it is stored: 00 ++ PSR bits 2-7 (R203). -/
def State.statusByte (s : State) : Byte := s.psr &&& 0x3F

/-- The low and the high byte `ST` stores for a register (R202); for the PSR the high byte is Q-backup,
this instruction's Q-byte (R203, decision D4). The IAR is the next sequential address (D27). -/
def State.storedLow (s : State) : Reg → Byte
  | .xr1 => lo s.xr1
  | .xr2 => lo s.xr2
  | .psr => s.statusByte
  | .arr => lo s.arr
  | .iar => lo s.iar

/-- See `State.storedLow`. -/
def State.storedHigh (s : State) : Reg → Byte
  | .xr1 => hi s.xr1
  | .xr2 => hi s.xr2
  | .psr => s.qBackup
  | .arr => hi s.arr
  | .iar => hi s.iar

/-- The index register `LA` loads: XR1 when Q bit 7 is 1, else XR2 (R125, R207, decision D18). -/
def State.loadIndex (s : State) (q : Byte) (v : Word) : State :=
  if ibmBit q 7 then { s with xr1 := v } else { s with xr2 := v }

end Sys2Proof.Machine
end

