-- ==== Sys2Proof/Machine/ControlProcessor.lean ====
section
/-! DEFINITION. The control processor's side of the MSP (spec/60_exceptions.md R297, R298): the status
bytes it senses (spec/10_state.md R46-R49), the registers it loads, and its accesses to main storage under
the CMR (spec/20_memory.md R88). -/

namespace Sys2Proof.Machine

/-! ## What it senses -/

/-- The code of a major clock time in status byte 0 bits 2-5 (R46). -/
def majorCode : MajorTime → BitVec 4
  | .op => 0x0
  | .q => 0x1
  | .ih1 => 0x2
  | .il1 => 0x3
  | .ih2 => 0x4
  | .il2 => 0x5
  | .ea => 0x8
  | .eb => 0xA
  | .ec => 0xC

/-- The code of a minor clock time in status byte 0 bits 6-7 (R46). -/
def minorCode : MinorTime → BitVec 2
  | .a => 3
  | .b => 2
  | .c => 0
  | .d => 1

/-- Status byte 0: bit 1 the complement latch, bits 2-5 the major and 6-7 the minor time (R46, D26). -/
def State.statusByte0 (s : State) : Byte :=
  0#1 ++ BitVec.ofBool s.complement ++ majorCode s.clock.major ++ minorCode s.clock.minor

/-- Status byte 2 in list order, the detached address check last (R48, D26, C12; log 27). -/
def State.statusByte2 (s : State) : Byte :=
  BitVec.ofBool s.nonexecutable ++ BitVec.ofBool s.controlGateCheck ++ BitVec.ofBool s.lsrGateCheck ++
    BitVec.ofBool s.storageGateCheck ++ BitVec.ofBool s.firstCycle ++ BitVec.ofBool s.recomplement ++
    BitVec.ofBool s.carry ++ BitVec.ofBool s.addressCheck

/-- A local storage register as the control processor senses it (R20). -/
def State.lsr (s : State) (n : Fin 16) : Word :=
  if h : n.val < 8 then s.lsrReserved[n.val]
  else
    match n.val with
    | 8 => s.lsr8
    | 9 => s.lsr9
    | 10 => s.iar
    | 11 => join s.lsr11Op s.lsr11Q
    | 12 => s.xr1
    | 13 => s.xr2
    | 14 => s.arr
    | _ => join s.lcrr s.psrLsr

/-! ## What it loads -/

/-- Load a local storage register (R20). -/
def State.loadLsr (s : State) (n : Fin 16) (v : Word) : State :=
  if h : n.val < 8 then { s with lsrReserved := s.lsrReserved.set n.val v h }
  else
    match n.val with
    | 8 => { s with lsr8 := v }
    | 9 => { s with lsr9 := v }
    | 10 => { s with iar := v }
    | 11 => { s with lsr11Op := hi v, lsr11Q := lo v }
    | 12 => { s with xr1 := v }
    | 13 => { s with xr2 := v }
    | 14 => { s with arr := v }
    | _ => { s with lcrr := hi v, psrLsr := lo v }

/-- "Issue a check reset to main storage processor checks" (R47, R294). DESIGN CHOICE: the four checks of
status byte 2, not status byte 3 and not the nonexecutable bit (log 65). -/
def State.checkReset (s : State) : State :=
  { s with controlGateCheck := false, lsrGateCheck := false, storageGateCheck := false, addressCheck := false }

/-- Load status byte 1 (R47): bit 0 step mode, bit 1 clock run, bit 2 check reset, bit 7 carry trigger. -/
def State.loadStatusByte1 (s : State) (b : Byte) : State :=
  let s := { s with stepMode := ibmBit b 0, carry := ibmBit b 7 }
  let s := if ibmBit b 2 then s.checkReset else s
  if ibmBit b 1 then s.startClock else { s with clockRun := false }

/-- The check of status byte 2 a hardware check reports; an MSAR parity check is in status byte 3 alone (R48,
R49, R283, R294). -/
def State.setCheck (s : State) : CheckKind → State
  | .controlGate => { s with controlGateCheck := true }
  | .lsrGate => { s with lsrGateCheck := true }
  | .storageGate => { s with storageGateCheck := true }
  | .address => { s with addressCheck := true }
  | .msarParity => s

/-! ## Its accesses to main storage (R42, R88, R300) -/

/-- The ATR a control-processor access uses: CMR bit 6 selects the I/O set (R42, R88). -/
def State.cpAtr (s : State) (a : Word) : Byte :=
  if ibmBit s.cmr 6 then s.atr.get (Fin.natAdd 32 (atrIndex a)) else s.taskAtr a

/-- The real address of a control-processor access, or the bit of the processor error byte it sets: 02 for
an address beyond storage, 01 for a protected ATR (R88, R300). -/
def State.cpReal (s : State) (a : Word) : Except Byte RealAddr :=
  if ibmBit s.cmr 7 then
    if atrProtects (s.cpAtr a) then .error 0x01
    else if s.inStorage (atrReal (s.cpAtr a) a) then .ok (atrReal (s.cpAtr a) a) else .error 0x02
  else if s.inStorage (a.setWidth 17) then .ok (a.setWidth 17) else .error 0x02

/-- A processor check of the control processor (R88, R300). DESIGN CHOICE: of bits 6 and 7 the byte then shows
this check alone, since both on mean a parity check; the other bits stay (log 30). -/
def State.cpCheck (s : State) (e : Byte) : State := { s with processorError := (s.processorError &&& 0xFC) ||| e }

/-- FREE VALUE: the MSAR after the control processor has loaded it to address an MSP register with WMPR or RMPR
(R37, R297; log 66). -/
def State.freeMsar (s : State) : State :=
  { s with msar := Config.freeMsar s.freeCount, freeCount := s.freeCount + 1 }

/-- The control processor writes a byte of main storage; its address enters the MSAR (R37, R88). The address
compare does not look at it (DESIGN CHOICE, log 64). -/
def State.cpWrite (s : State) (a : Word) (b : Byte) : State :=
  match s.cpReal a with
  | .ok ra => (s.setMsar a).putByte ra b
  | .error e => (s.setMsar a).cpCheck e

/-- The control processor reads a byte of main storage: its trace on the machine is the address in the MSAR,
and a failed check (R37, R88; log 64). -/
def State.cpRead (s : State) (a : Word) : State :=
  match s.cpReal a with
  | .ok _ => s.setMsar a
  | .error e => (s.setMsar a).cpCheck e

/-! ## Its actions -/

/-- A system reset: the PSR is hex 01 (R57, R320) and the clock is stopped (R58's presumption). DESIGN CHOICE:
every other register, latch, status byte and line stays, LSR 15 low among them (log 60, 61). -/
def State.resetSystem (s : State) : State := { s with psr := 0x01, clockRun := false }

/-- One action of the control processor (R297); the two scheduling entries do nothing by themselves. The PSR and
its copy in LSR 15 low are loaded apart (DESIGN CHOICE, log 61); the CMR, BMR and CCR keep all eight bits
(DESIGN CHOICE, log 63). What WMPR loads leaves the MSAR free (log 66). -/
def State.perform (s : State) : HostAction → State
  | .loadLsr n v => s.freeMsar.loadLsr n v
  | .loadPsr b => s.freeMsar.setPsr (b &&& 0x3F)
  | .loadPmr b => s.freeMsar.setPmr b
  | .loadAtr n b => { s with atr := s.atr.set n.val b n.isLt }
  | .loadCmr b => { s with cmr := b }
  | .loadBmr b => { s with bmr := b }
  | .loadCcr b => { s with ccr := b }
  | .loadAcr a => { s with acr := a }
  | .loadStatusByte1 b => s.freeMsar.loadStatusByte1 b
  | .resetStatusByte3 => { s.freeMsar with sb3 := 0 }
  | .acceptLevel5 => { s with level5 := false }
  | .writeStorage a b => s.cpWrite a b
  | .readStorage a => s.cpRead a
  | .senseRegister => s.freeMsar
  | .setProcessorError b => { s with processorError := b }
  | .systemReset => s.resetSystem
  | .setAddressStop on => { s with ceAddressStop := on }
  | .injectCheck k => (s.setCheck k).stop (.hardwareCheck k)
  | .awaitStop => s
  | .letInstruction => s

end Sys2Proof.Machine
end

