-- ==== Sys2Proof/Machine/Flags.lean ====
section
/-! DEFINITION. The program status byte: its bits (spec/10_state.md R26), how instructions set them (R27,
R28), the condition of `BC` and `JC` (spec/42_logical.md R235, R236), and decimal digit arithmetic
(spec/40_arithmetic.md R150, R152). -/

namespace Sys2Proof.Machine

/-- `PSR.BO`, bit 2, binary overflow (R26). -/
def psrBO : Byte := 0x20
/-- `PSR.TF`, bit 3, test false (R26). -/
def psrTF : Byte := 0x10
/-- `PSR.DO`, bit 4, decimal overflow (R26). -/
def psrDO : Byte := 0x08
/-- `PSR.HI`, bit 5, high (R26). -/
def psrHI : Byte := 0x04
/-- `PSR.LO`, bit 6, low (R26). -/
def psrLO : Byte := 0x02
/-- `PSR.EQ`, bit 7, equal (R26). -/
def psrEQ : Byte := 0x01

/-- The indicator of `mask` is on. -/
def flagOn (psr mask : Byte) : Bool := psr &&& mask != 0

/-- Set or reset the indicator of `mask`, leaving the others. -/
def setFlag (psr mask : Byte) (on : Bool) : Byte := if on then psr ||| mask else psr &&& ~~~mask

/-- Set High, Low and Equal, leaving the other bits (R27). -/
def setCondition (psr : Byte) (high low equal : Bool) : Byte :=
  setFlag (setFlag (setFlag psr psrHI high) psrLO low) psrEQ equal

/-- Equal on a zero result; otherwise Low when `low`, else High (R27, R158, R161, R162). -/
def setResult (psr : Byte) (nonzero low : Bool) : Byte :=
  setCondition psr (nonzero && !low) (nonzero && low) (!nonzero)

/-- The unsigned comparison of operand 1 with operand 2 (R230, R231). -/
def setCompare (psr op1 op2 : Byte) : Byte :=
  setCondition psr (op2.ult op1) (op1.ult op2) (op1 == op2)

/-- The PSR after `ALC` or `A`: a result that is `nonzero` or not, with a carry out or not; Binary overflow
is the carry (R161, R165, decision D3). -/
def setSum (psr : Byte) (nonzero carry : Bool) : Byte :=
  setFlag (setResult psr nonzero (!carry)) psrBO carry

/-- `loadPSR(b)` of R205: Equal over Low over High, bits 0-1 dropped. -/
def loadedPsr (b : Byte) : Byte :=
  setCondition (b &&& 0x38)
    (ibmBit b 5 && !ibmBit b 6 && !ibmBit b 7) (ibmBit b 6 && !ibmBit b 7) (ibmBit b 7)

/-- The value `cond(Q)` returns (R236): Q bit 0 on, some tested indicator is on; off, all tested are off. -/
def condMet (q psr : Byte) : Bool :=
  if ibmBit q 0 then q &&& psr &&& 0x3F != 0 else q &&& psr &&& 0x3F == 0

/-- What `cond(Q)` leaves in the PSR (R236): Test false and Decimal overflow are reset if tested. -/
def resetTested (q psr : Byte) : Byte := psr &&& ~~~(q &&& 0x18)

/-- `isNegativeZone` (R150, decision D1): only hex D is minus. -/
def isNegativeZone (z : BitVec 4) : Bool := z == 0xD

/-- `decadd(a, b, c)` of R152: the digit and the carry. -/
def decadd (a b : BitVec 4) (c : Bool) : BitVec 4 × Bool :=
  let s : Int := a.toNat + b.toNat + c.toNat
  if s ≥ 10 then (BitVec.ofInt 4 (s + 6), true) else (BitVec.ofInt 4 s, false)

/-- `decsub(a, b, c)` of R152: the digit and the borrow. -/
def decsub (a b : BitVec 4) (c : Bool) : BitVec 4 × Bool :=
  let d : Int := (a.toNat : Int) - b.toNat - c.toNat
  if d < 0 then (BitVec.ofInt 4 (d + 10), true) else (BitVec.ofInt 4 d, false)

/-- The zone stored in the rightmost byte: hex D for minus, hex F for plus or zero (R150, R154). -/
def signZone (negative : Bool) : BitVec 4 := if negative then 0xD else 0xF

end Sys2Proof.Machine
end

