-- ==== Sys2Proof/Machine/Binary.lean ====
section
/-! DEFINITION. Binary arithmetic: ALC, SLC and A (spec/40_arithmetic.md R160-R166). -/

namespace Sys2Proof.Machine

/-- What `ALC` and `SLC` carry from byte to byte: the carry or borrow, and that a result byte was not zero. -/
structure BinAcc where
  c : Bool
  nz : Bool
  deriving DecidableEq, Repr

/-! ## ALC (R161) -/

/-- Byte cycle of `ALC`. -/
def alcCycle (_i : Nat) (acc : BinAcc) (s : State) : Res BinAcc :=
  s.countQ.takeOp2.bind fun y s =>
    s.readOp1.bind fun x s =>
      let sum := x.toNat + y.toNat + acc.c.toNat
      let c := decide (256 ≤ sum)
      let r := BitVec.ofNat 8 sum
      ((s.setCarry c).storeOp1 r).bind fun _ s => .ok ⟨c, acc.nz || r != 0⟩ s.endCycle

/-- `ALC`: add logical characters (R161). -/
def alcRun (q : Byte) (s : State) : Res Unit :=
  (loop alcCycle (fieldLength q) 0 ⟨false, false⟩ s).bind fun acc s =>
    .ok () (s.setPsr (setSum s.psr acc.nz acc.c))

/-- `ALC` in any addressing (R161). -/
def alcForm (q : Byte) (o1 o2 : Operand) (s : State) : Result := (alcRun q (s.enterTwo q o1 o2)).outcome

/-- `ALC`, op 0E (R161). -/
def execAlcX00 (q : Byte) (a1 : Word) (a2 : Word) (s : State) : Result :=
  alcForm q (.direct a1) (.direct a2) s

/-- `ALC`, op 1E (R161). -/
def execAlcX01 (q : Byte) (a1 : Word) (d2 : Byte) (s : State) : Result :=
  alcForm q (.direct a1) (.xr1 d2) s

/-- `ALC`, op 2E (R161). -/
def execAlcX02 (q : Byte) (a1 : Word) (d2 : Byte) (s : State) : Result :=
  alcForm q (.direct a1) (.xr2 d2) s

/-- `ALC`, op 4E (R161). -/
def execAlcX10 (q : Byte) (d1 : Byte) (a2 : Word) (s : State) : Result :=
  alcForm q (.xr1 d1) (.direct a2) s

/-- `ALC`, op 5E (R161). -/
def execAlcX11 (q : Byte) (d1 : Byte) (d2 : Byte) (s : State) : Result :=
  alcForm q (.xr1 d1) (.xr1 d2) s

/-- `ALC`, op 6E (R161). -/
def execAlcX12 (q : Byte) (d1 : Byte) (d2 : Byte) (s : State) : Result :=
  alcForm q (.xr1 d1) (.xr2 d2) s

/-- `ALC`, op 8E (R161). -/
def execAlcX20 (q : Byte) (d1 : Byte) (a2 : Word) (s : State) : Result :=
  alcForm q (.xr2 d1) (.direct a2) s

/-- `ALC`, op 9E (R161). -/
def execAlcX21 (q : Byte) (d1 : Byte) (d2 : Byte) (s : State) : Result :=
  alcForm q (.xr2 d1) (.xr1 d2) s

/-- `ALC`, op AE (R161). -/
def execAlcX22 (q : Byte) (d1 : Byte) (d2 : Byte) (s : State) : Result :=
  alcForm q (.xr2 d1) (.xr2 d2) s

/-! ## SLC (R162) -/

/-- Byte cycle of `SLC`. The carry trigger holds the inverse of the borrow ("X minus Y minus 1 plus carry",
spec/10_state.md R33; log 16). -/
def slcCycle (_i : Nat) (acc : BinAcc) (s : State) : Res BinAcc :=
  s.countQ.takeOp2.bind fun y s =>
    s.readOp1.bind fun x s =>
      let d : Int := (x.toNat : Int) - y.toNat - acc.c.toNat
      let b := decide (d < 0)
      let r := BitVec.ofInt 8 d
      ((s.setCarry (!b)).storeOp1 r).bind fun _ s => .ok ⟨b, acc.nz || r != 0⟩ s.endCycle

/-- `SLC`: subtract logical characters (R162). -/
def slcRun (q : Byte) (s : State) : Res Unit :=
  (loop slcCycle (fieldLength q) 0 ⟨false, false⟩ s).bind fun acc s =>
    .ok () (s.setPsr (setCondition s.psr (acc.nz && !acc.c) acc.c (!acc.nz)))

/-- `SLC` in any addressing (R162). -/
def slcForm (q : Byte) (o1 o2 : Operand) (s : State) : Result := (slcRun q (s.enterTwo q o1 o2)).outcome

/-- `SLC`, op 0F (R162). -/
def execSlcX00 (q : Byte) (a1 : Word) (a2 : Word) (s : State) : Result :=
  slcForm q (.direct a1) (.direct a2) s

/-- `SLC`, op 1F (R162). -/
def execSlcX01 (q : Byte) (a1 : Word) (d2 : Byte) (s : State) : Result :=
  slcForm q (.direct a1) (.xr1 d2) s

/-- `SLC`, op 2F (R162). -/
def execSlcX02 (q : Byte) (a1 : Word) (d2 : Byte) (s : State) : Result :=
  slcForm q (.direct a1) (.xr2 d2) s

/-- `SLC`, op 4F (R162). -/
def execSlcX10 (q : Byte) (d1 : Byte) (a2 : Word) (s : State) : Result :=
  slcForm q (.xr1 d1) (.direct a2) s

/-- `SLC`, op 5F (R162). -/
def execSlcX11 (q : Byte) (d1 : Byte) (d2 : Byte) (s : State) : Result :=
  slcForm q (.xr1 d1) (.xr1 d2) s

/-- `SLC`, op 6F (R162). -/
def execSlcX12 (q : Byte) (d1 : Byte) (d2 : Byte) (s : State) : Result :=
  slcForm q (.xr1 d1) (.xr2 d2) s

/-- `SLC`, op 8F (R162). -/
def execSlcX20 (q : Byte) (d1 : Byte) (a2 : Word) (s : State) : Result :=
  slcForm q (.xr2 d1) (.direct a2) s

/-- `SLC`, op 9F (R162). -/
def execSlcX21 (q : Byte) (d1 : Byte) (d2 : Byte) (s : State) : Result :=
  slcForm q (.xr2 d1) (.xr1 d2) s

/-- `SLC`, op AF (R162). -/
def execSlcX22 (q : Byte) (d1 : Byte) (d2 : Byte) (s : State) : Result :=
  slcForm q (.xr2 d1) (.xr2 d2) s

/-! ## A (R165, R166) -/

/-- A 16-bit register with its low byte replaced. -/
def withLow (w : Word) (b : Byte) : Word := join (hi w) b

/-- A 16-bit register with its high byte replaced. -/
def withHigh (w : Word) (b : Byte) : Word := join b (lo w)

/-- Load the low byte of the selected register: an LSR, or the PSR and its copy in LSR 15 (R205). -/
def State.loadLow (s : State) (r : Reg) (b : Byte) : State :=
  match r with
  | .xr1 => { s with xr1 := withLow s.xr1 b }
  | .xr2 => { s with xr2 := withLow s.xr2 b }
  | .arr => { s with arr := withLow s.arr b }
  | .iar => { s with iar := withLow s.iar b }
  | .psr => { s with psr := loadedPsr b, psrLsr := b }

/-- Load the high byte of the selected register; with the PSR selected it goes to the LCRR (R205, D25). -/
def State.loadHigh (s : State) (r : Reg) (b : Byte) : State :=
  match r with
  | .xr1 => { s with xr1 := withHigh s.xr1 b }
  | .xr2 => { s with xr2 := withHigh s.xr2 b }
  | .arr => { s with arr := withHigh s.arr b }
  | .iar => { s with iar := withHigh s.iar b }
  | .psr => { s with lcrr := b }

/-- The sum of two bytes and a carry. -/
def addBytes (a b : Byte) (c : Bool) : Byte := BitVec.ofNat 8 (a.toNat + b.toNat + c.toNat)

/-- The carry out of that sum. -/
def carryOut (a b : Byte) (c : Bool) : Bool := decide (256 ≤ a.toNat + b.toNat + c.toNat)

/-- `A` with an LSR selected: the low byte is stored after the first read, the high byte after the second
(R165). -/
def addToLsr (r : Reg) (s : State) : Res Unit :=
  s.takeOp1.bind fun l s =>
    let low := addBytes (s.storedLow r) l false
    let c0 := carryOut (s.storedLow r) l false
    ((s.loadLow r low).setCarry c0).endCycle.takeOp1.bind fun h s =>
      let high := addBytes (s.storedHigh r) h c0
      let c := carryOut (s.storedHigh r) h c0
      let s := (s.loadHigh r high).setCarry c
      .ok () (s.setPsr (setSum s.psr (join high low != 0) c))

/-- FREE VALUE: the six PSR bits and LSR 15 low after the first cycle of `A` with the PSR selected (R166,
D24; log 8). -/
def State.freePsr (s : State) : State :=
  { s with
    psr := Config.freeByte s.freeCount &&& 0x3F
    psrLsr := Config.freeByte (s.freeCount + 1)
    freeCount := s.freeCount + 2 }

/-- FREE VALUE: the LCRR after the second cycle of `A` with the PSR selected (R166, D24; log 8). -/
def State.freeLcrr (s : State) : State :=
  { s with lcrr := Config.freeByte s.freeCount, freeCount := s.freeCount + 1 }

/-- FREE VALUE: the carry trigger after a cycle of `A` with the PSR selected: the add of R166 whose operands
include the unspecified PSR (log 8). -/
def State.freeCarry (s : State) : State :=
  { s with carry := (Config.freeByte s.freeCount).getLsbD 0, freeCount := s.freeCount + 1 }

/-- `A` with the PSR selected: the storage reads are R165's, the six PSR bits and LSR 15 are unspecified
(R166, D24). -/
def addToPsr (s : State) : Res Unit :=
  s.takeOp1.bind fun _ s =>
    s.freePsr.freeCarry.endCycle.takeOp1.bind fun _ s => .ok () s.freeLcrr.freeCarry

/-- `A` with the selected register (R165, R166). -/
def addTo (r : Reg) (s : State) : Res Unit :=
  match r with
  | .psr => addToPsr s
  | .xr1 => addToLsr .xr1 s
  | .xr2 => addToLsr .xr2 s
  | .arr => addToLsr .arr s
  | .iar => addToLsr .iar s

/-- `A`: add to register, in any addressing (R165, R124, R129). With Q-byte hex 00 it is ignored:
DESIGN CHOICE, no access and no execution cycle, so 'first cycle' stays on (D6; log 24). -/
def aForm (q : Byte) (o : Operand) (s : State) : Result :=
  match selectOf q with
  | .ignored => .next (s.enterOne q o)
  | .reg r => (addTo r (s.enterOne q o)).outcome
  | .undefined => .refused (.undefinedQ q)

/-- `A`, op 36 (R165). -/
def execAY0 (q : Byte) (a1 : Word) (s : State) : Result :=
  aForm q (.direct a1) s

/-- `A`, op 76 (R165). -/
def execAY1 (q : Byte) (d1 : Byte) (s : State) : Result :=
  aForm q (.xr1 d1) s

/-- `A`, op B6 (R165). -/
def execAY2 (q : Byte) (d1 : Byte) (s : State) : Result :=
  aForm q (.xr2 d1) s

end Sys2Proof.Machine
end

