-- ==== Sys2Proof/Machine/Command.lean ====
section
/-! DEFINITION. Command instructions: JC, LPMR and SVC (spec/43_command.md R260-R266). -/

namespace Sys2Proof.Machine

/-- `JC`: jump on condition. The IAR holds the next sequential address, to which the R-byte is added
(R261, R262). DESIGN CHOICE: the addition leaves the carry trigger as it was (log 67). It has no execution
cycle (R260), so 'first cycle' stays on (R38). -/
def execJc (q r : Byte) (s : State) : Result :=
  let t := (s.enter q).setPsr (resetTested q s.psr)
  .next (if condMet q s.psr then t.setIar (s.iar + r.setWidth 16) else t)

/-- `LPMR`: load program mode register; in nonprivileged mode a storage exception (R263, R264). DESIGN
CHOICE: it has no execution cycle, so 'first cycle' stays on (R260, N20; log 69). -/
def execLpmr (q r : Byte) (s : State) : Result :=
  let t := s.enter q
  .next (if s.nonprivileged then t.stop .pmrAlter else t.setPmr r)

/-- `SVC`: supervisor call. The R-byte goes to the LCRR, the op and Q bytes stand in LSR 11 and Q-backup,
and the MSP stops (R265). -/
def execSvc (q r : Byte) (s : State) : Result :=
  .next ({ s with
    opReg := 0xF4, lsr11Op := 0xF4, lsr11Q := q, qReg := q, qBackup := q, lcrr := r }.stop (.supervisorCall q r))

end Sys2Proof.Machine
end

