-- ==== Sys2Proof/Machine/DataControl.lean ====
section
/-! DEFINITION. Data control: MVX, MVC, ED, ITC, MVI, SBN, SBF, ST, L and LA (spec/41_data_control.md R190-R207). -/

namespace Sys2Proof.Machine

/-! ## MVX (R190) -/

/-- The byte `MVX` stores: Q bit 7 selects the source half, Q bit 6 the destination half (R123, R190). -/
def movedHalf (q x y : Byte) : Byte :=
  let h := if ibmBit q 7 then num y else zone y
  if ibmBit q 6 then zoned (zone x) h else zoned h (num x)

/-- `MVX`: move hexadecimal character. Neither operand pointer steps (R190). -/
def mvxRun (q : Byte) (s : State) : Res Unit :=
  (s.readAt .op2 s.lsr9).bind fun y s =>
    s.readOp1.bind fun x s =>
      (s.writeOp1 (movedHalf q x y)).bind fun _ s => .ok () s.endCycle

/-- `MVX` in any addressing (R190). -/
def mvxForm (q : Byte) (o1 o2 : Operand) (s : State) : Result := (mvxRun q (s.enterTwo q o1 o2)).outcome

/-- `MVX`, op 08 (R190). -/
def execMvxX00 (q : Byte) (a1 : Word) (a2 : Word) (s : State) : Result :=
  mvxForm q (.direct a1) (.direct a2) s

/-- `MVX`, op 18 (R190). -/
def execMvxX01 (q : Byte) (a1 : Word) (d2 : Byte) (s : State) : Result :=
  mvxForm q (.direct a1) (.xr1 d2) s

/-- `MVX`, op 28 (R190). -/
def execMvxX02 (q : Byte) (a1 : Word) (d2 : Byte) (s : State) : Result :=
  mvxForm q (.direct a1) (.xr2 d2) s

/-- `MVX`, op 48 (R190). -/
def execMvxX10 (q : Byte) (d1 : Byte) (a2 : Word) (s : State) : Result :=
  mvxForm q (.xr1 d1) (.direct a2) s

/-- `MVX`, op 58 (R190). -/
def execMvxX11 (q : Byte) (d1 : Byte) (d2 : Byte) (s : State) : Result :=
  mvxForm q (.xr1 d1) (.xr1 d2) s

/-- `MVX`, op 68 (R190). -/
def execMvxX12 (q : Byte) (d1 : Byte) (d2 : Byte) (s : State) : Result :=
  mvxForm q (.xr1 d1) (.xr2 d2) s

/-- `MVX`, op 88 (R190). -/
def execMvxX20 (q : Byte) (d1 : Byte) (a2 : Word) (s : State) : Result :=
  mvxForm q (.xr2 d1) (.direct a2) s

/-- `MVX`, op 98 (R190). -/
def execMvxX21 (q : Byte) (d1 : Byte) (d2 : Byte) (s : State) : Result :=
  mvxForm q (.xr2 d1) (.xr1 d2) s

/-- `MVX`, op A8 (R190). -/
def execMvxX22 (q : Byte) (d1 : Byte) (d2 : Byte) (s : State) : Result :=
  mvxForm q (.xr2 d1) (.xr2 d2) s

/-! ## MVC (R191, R192) -/

/-- Byte cycle of `MVC`. -/
def mvcCycle (_i : Nat) (_ : Unit) (s : State) : Res Unit :=
  s.countQ.takeOp2.bind fun y s => (s.storeOp1 y).bind fun _ s => .ok () s.endCycle

/-- `MVC`: move characters, right to left (R191). -/
def mvcRun (q : Byte) (s : State) : Res Unit := loop mvcCycle (fieldLength q) 0 () s

/-- `MVC` in any addressing (R191). -/
def mvcForm (q : Byte) (o1 o2 : Operand) (s : State) : Result := (mvcRun q (s.enterTwo q o1 o2)).outcome

/-- `MVC`, op 0C (R191). -/
def execMvcX00 (q : Byte) (a1 : Word) (a2 : Word) (s : State) : Result :=
  mvcForm q (.direct a1) (.direct a2) s

/-- `MVC`, op 1C (R191). -/
def execMvcX01 (q : Byte) (a1 : Word) (d2 : Byte) (s : State) : Result :=
  mvcForm q (.direct a1) (.xr1 d2) s

/-- `MVC`, op 2C (R191). -/
def execMvcX02 (q : Byte) (a1 : Word) (d2 : Byte) (s : State) : Result :=
  mvcForm q (.direct a1) (.xr2 d2) s

/-- `MVC`, op 4C (R191). -/
def execMvcX10 (q : Byte) (d1 : Byte) (a2 : Word) (s : State) : Result :=
  mvcForm q (.xr1 d1) (.direct a2) s

/-- `MVC`, op 5C (R191). -/
def execMvcX11 (q : Byte) (d1 : Byte) (d2 : Byte) (s : State) : Result :=
  mvcForm q (.xr1 d1) (.xr1 d2) s

/-- `MVC`, op 6C (R191). -/
def execMvcX12 (q : Byte) (d1 : Byte) (d2 : Byte) (s : State) : Result :=
  mvcForm q (.xr1 d1) (.xr2 d2) s

/-- `MVC`, op 8C (R191). -/
def execMvcX20 (q : Byte) (d1 : Byte) (a2 : Word) (s : State) : Result :=
  mvcForm q (.xr2 d1) (.direct a2) s

/-- `MVC`, op 9C (R191). -/
def execMvcX21 (q : Byte) (d1 : Byte) (d2 : Byte) (s : State) : Result :=
  mvcForm q (.xr2 d1) (.xr1 d2) s

/-- `MVC`, op AC (R191). -/
def execMvcX22 (q : Byte) (d1 : Byte) (d2 : Byte) (s : State) : Result :=
  mvcForm q (.xr2 d1) (.xr2 d2) s

/-! ## ED (R193-R195) -/

/-- What `ED` carries from byte to byte: the next operand 2 byte must be read (`need`), the byte last read,
operand 2 is negative, a moved digit was not zero (`nzd`), the rightmost operand 1 byte was hex 20. -/
structure EditAcc where
  need : Bool
  y : Byte
  n2 : Bool
  nzd : Bool
  first20 : Bool
  deriving DecidableEq, Repr

/-- Read the next operand 2 byte when one is needed; the first one gives the sign (R193). -/
def takeDigit (i : Nat) (acc : EditAcc) (s : State) : Res EditAcc :=
  if acc.need then
    s.takeOp2.bind fun y s =>
      .ok { acc with need := false, y := y, n2 := if i = 0 then isNegativeZone (zone y) else acc.n2 } s
  else .ok acc s

/-- Byte cycle `i` of `ED` over operand 1: hex 20 is replaced by the digit, any other byte is left (R193). -/
def edCycle (i : Nat) (acc : EditAcc) (s : State) : Res EditAcc :=
  (takeDigit i acc s.countQ).bind fun acc s =>
    s.readOp1.bind fun x s =>
      if x = 0x20 then
        (s.storeOp1 (zoned 0xF (num acc.y))).bind fun _ s =>
          .ok { acc with
            need := true
            nzd := acc.nzd || num acc.y != 0
            first20 := acc.first20 || decide (i = 0) } s.endCycle
      else .ok acc s.downOp1.endCycle

/-- FREE VALUE: High, Low and Equal after `ED` when none of the footnote's conditions holds (R194, U15;
log 9). -/
def State.freeEdit (s : State) : State :=
  let f := Config.freeCondition s.freeCount
  { s with
    psr := setCondition s.psr (f.getLsbD 2) (f.getLsbD 1) (f.getLsbD 0)
    freeCount := s.freeCount + 1 }

/-- `ED`: edit. `wasEqual` is PSR.EQ before the instruction (R193, R194). -/
def edRun (q : Byte) (wasEqual : Bool) (s : State) : Res Unit :=
  (loop edCycle (fieldLength q) 0 ⟨true, 0, false, false, false⟩ s).bind fun acc s =>
    if wasEqual || acc.first20 || acc.nzd then
      .ok () (s.setPsr (setResult s.psr acc.nzd acc.n2))
    else .ok () s.freeEdit

/-- `ED` in any addressing (R193). -/
def edForm (q : Byte) (o1 o2 : Operand) (s : State) : Result :=
  (edRun q (flagOn s.psr psrEQ) (s.enterTwo q o1 o2)).outcome

/-- `ED`, op 0A (R193). -/
def execEdX00 (q : Byte) (a1 : Word) (a2 : Word) (s : State) : Result :=
  edForm q (.direct a1) (.direct a2) s

/-- `ED`, op 1A (R193). -/
def execEdX01 (q : Byte) (a1 : Word) (d2 : Byte) (s : State) : Result :=
  edForm q (.direct a1) (.xr1 d2) s

/-- `ED`, op 2A (R193). -/
def execEdX02 (q : Byte) (a1 : Word) (d2 : Byte) (s : State) : Result :=
  edForm q (.direct a1) (.xr2 d2) s

/-- `ED`, op 4A (R193). -/
def execEdX10 (q : Byte) (d1 : Byte) (a2 : Word) (s : State) : Result :=
  edForm q (.xr1 d1) (.direct a2) s

/-- `ED`, op 5A (R193). -/
def execEdX11 (q : Byte) (d1 : Byte) (d2 : Byte) (s : State) : Result :=
  edForm q (.xr1 d1) (.xr1 d2) s

/-- `ED`, op 6A (R193). -/
def execEdX12 (q : Byte) (d1 : Byte) (d2 : Byte) (s : State) : Result :=
  edForm q (.xr1 d1) (.xr2 d2) s

/-- `ED`, op 8A (R193). -/
def execEdX20 (q : Byte) (d1 : Byte) (a2 : Word) (s : State) : Result :=
  edForm q (.xr2 d1) (.direct a2) s

/-- `ED`, op 9A (R193). -/
def execEdX21 (q : Byte) (d1 : Byte) (d2 : Byte) (s : State) : Result :=
  edForm q (.xr2 d1) (.xr1 d2) s

/-- `ED`, op AA (R193). -/
def execEdX22 (q : Byte) (d1 : Byte) (d2 : Byte) (s : State) : Result :=
  edForm q (.xr2 d1) (.xr2 d2) s

/-! ## ITC (R196, R197) -/

/-- Byte cycle of `ITC`, left to right, while no significant byte has been found: operand 1's address goes
to the ARR, and an insignificant byte is replaced by the fill byte (R196). -/
def itcCycle (fill : Byte) (_i : Nat) (found : Bool) (s : State) : Res Bool :=
  if found then .ok true s
  else
    let s := s.countQ
    (s.setArr s.lsr8).readOp1.bind fun x s =>
      if s.cfg.itcSignificant x then .ok true s.endCycle
      else (s.writeOp1 fill).bind fun _ s => .ok false s.upOp1.endCycle

/-- `ITC`: insert and test characters; when no byte is significant the ARR gets the address of the byte to
the right of operand 1 (R196, R197). -/
def itcRun (q : Byte) (s : State) : Res Unit :=
  s.takeOp2.bind fun fill s =>
    (loop (itcCycle fill) (fieldLength q) 0 false s).bind fun found s =>
      .ok () (if found then s else s.setArr s.lsr8)

/-- `ITC` in any addressing (R196). -/
def itcForm (q : Byte) (o1 o2 : Operand) (s : State) : Result := (itcRun q (s.enterTwo q o1 o2)).outcome

/-- `ITC`, op 0B (R196). -/
def execItcX00 (q : Byte) (a1 : Word) (a2 : Word) (s : State) : Result :=
  itcForm q (.direct a1) (.direct a2) s

/-- `ITC`, op 1B (R196). -/
def execItcX01 (q : Byte) (a1 : Word) (d2 : Byte) (s : State) : Result :=
  itcForm q (.direct a1) (.xr1 d2) s

/-- `ITC`, op 2B (R196). -/
def execItcX02 (q : Byte) (a1 : Word) (d2 : Byte) (s : State) : Result :=
  itcForm q (.direct a1) (.xr2 d2) s

/-- `ITC`, op 4B (R196). -/
def execItcX10 (q : Byte) (d1 : Byte) (a2 : Word) (s : State) : Result :=
  itcForm q (.xr1 d1) (.direct a2) s

/-- `ITC`, op 5B (R196). -/
def execItcX11 (q : Byte) (d1 : Byte) (d2 : Byte) (s : State) : Result :=
  itcForm q (.xr1 d1) (.xr1 d2) s

/-- `ITC`, op 6B (R196). -/
def execItcX12 (q : Byte) (d1 : Byte) (d2 : Byte) (s : State) : Result :=
  itcForm q (.xr1 d1) (.xr2 d2) s

/-- `ITC`, op 8B (R196). -/
def execItcX20 (q : Byte) (d1 : Byte) (a2 : Word) (s : State) : Result :=
  itcForm q (.xr2 d1) (.direct a2) s

/-- `ITC`, op 9B (R196). -/
def execItcX21 (q : Byte) (d1 : Byte) (d2 : Byte) (s : State) : Result :=
  itcForm q (.xr2 d1) (.xr1 d2) s

/-- `ITC`, op AB (R196). -/
def execItcX22 (q : Byte) (d1 : Byte) (d2 : Byte) (s : State) : Result :=
  itcForm q (.xr2 d1) (.xr2 d2) s

/-! ## MVI, SBN, SBF (R198-R201) -/

/-- `MVI`: move logical immediate, in any addressing (R198). -/
def mviForm (q : Byte) (o : Operand) (s : State) : Result :=
  ((s.enterOne q o).storeOp1 q |>.bind fun _ s => .ok () s.endCycle).outcome

/-- Read operand 1, change it, write it back: `SBN` and `SBF` (R201). -/
def modifyOp1 (f : Byte → Byte) (s : State) : Res Unit :=
  s.readOp1.bind fun x s => (s.storeOp1 (f x)).bind fun _ s => .ok () s.endCycle

/-- `SBN`: set bits on masked, in any addressing (R199). -/
def sbnForm (q : Byte) (o : Operand) (s : State) : Result :=
  (modifyOp1 (fun x => x ||| q) (s.enterOne q o)).outcome

/-- `SBF`: set bits off masked, in any addressing (R200). -/
def sbfForm (q : Byte) (o : Operand) (s : State) : Result :=
  (modifyOp1 (fun x => x &&& ~~~q) (s.enterOne q o)).outcome

/-- `MVI`, op 3C (R198). -/
def execMviY0 (q : Byte) (a1 : Word) (s : State) : Result :=
  mviForm q (.direct a1) s

/-- `MVI`, op 7C (R198). -/
def execMviY1 (q : Byte) (d1 : Byte) (s : State) : Result :=
  mviForm q (.xr1 d1) s

/-- `MVI`, op BC (R198). -/
def execMviY2 (q : Byte) (d1 : Byte) (s : State) : Result :=
  mviForm q (.xr2 d1) s

/-- `SBN`, op 3A (R199). -/
def execSbnY0 (q : Byte) (a1 : Word) (s : State) : Result :=
  sbnForm q (.direct a1) s

/-- `SBN`, op 7A (R199). -/
def execSbnY1 (q : Byte) (d1 : Byte) (s : State) : Result :=
  sbnForm q (.xr1 d1) s

/-- `SBN`, op BA (R199). -/
def execSbnY2 (q : Byte) (d1 : Byte) (s : State) : Result :=
  sbnForm q (.xr2 d1) s

/-- `SBF`, op 3B (R200). -/
def execSbfY0 (q : Byte) (a1 : Word) (s : State) : Result :=
  sbfForm q (.direct a1) s

/-- `SBF`, op 7B (R200). -/
def execSbfY1 (q : Byte) (d1 : Byte) (s : State) : Result :=
  sbfForm q (.xr1 d1) s

/-- `SBF`, op BB (R200). -/
def execSbfY2 (q : Byte) (d1 : Byte) (s : State) : Result :=
  sbfForm q (.xr2 d1) s

/-! ## ST (R202, R203) -/

/-- `ST` of the selected register: low byte at A1, high byte at A1 - 1 (R202, R203). -/
def storeReg (r : Reg) (s : State) : Res Unit :=
  (s.storeOp1 (s.storedLow r)).bind fun _ s =>
    (s.endCycle.storeOp1 (s.storedHigh r)).bind fun _ s => .ok () s

/-- `ST`: store register, in any addressing (R202, R124, R129). With Q-byte hex 00 it is ignored:
DESIGN CHOICE, no access and no execution cycle, so 'first cycle' stays on (D6; log 24). -/
def stForm (q : Byte) (o : Operand) (s : State) : Result :=
  match selectOf q with
  | .ignored => .next (s.enterOne q o)
  | .reg r => (storeReg r (s.enterOne q o)).outcome
  | .undefined => .refused (.undefinedQ q)

/-- `ST`, op 34 (R202). -/
def execStY0 (q : Byte) (a1 : Word) (s : State) : Result :=
  stForm q (.direct a1) s

/-- `ST`, op 74 (R202). -/
def execStY1 (q : Byte) (d1 : Byte) (s : State) : Result :=
  stForm q (.xr1 d1) s

/-- `ST`, op B4 (R202). -/
def execStY2 (q : Byte) (d1 : Byte) (s : State) : Result :=
  stForm q (.xr2 d1) s

/-! ## L (R205) -/

/-- `L` of the selected register: low byte from A1, then high byte from A1 - 1 (R205). -/
def loadReg (r : Reg) (s : State) : Res Unit :=
  s.takeOp1.bind fun l s =>
    (s.loadLow r l).endCycle.takeOp1.bind fun h s => .ok () (s.loadHigh r h)

/-- `L`: load register, in any addressing (R205, R124, R129). With Q-byte hex 00 it is ignored:
DESIGN CHOICE, no access and no execution cycle, so 'first cycle' stays on (D6; log 24). -/
def lForm (q : Byte) (o : Operand) (s : State) : Result :=
  match selectOf q with
  | .ignored => .next (s.enterOne q o)
  | .reg r => (loadReg r (s.enterOne q o)).outcome
  | .undefined => .refused (.undefinedQ q)

/-- `L`, op 35 (R205). -/
def execLY0 (q : Byte) (a1 : Word) (s : State) : Result :=
  lForm q (.direct a1) s

/-- `L`, op 75 (R205). -/
def execLY1 (q : Byte) (d1 : Byte) (s : State) : Result :=
  lForm q (.xr1 d1) s

/-- `L`, op B5 (R205). -/
def execLY2 (q : Byte) (d1 : Byte) (s : State) : Result :=
  lForm q (.xr2 d1) s

/-! ## LA (R206, R207) -/

/-- `LA`: load address, in any addressing: the effective address itself goes to the index register (R206). -/
def laForm (q : Byte) (o : Operand) (s : State) : Result :=
  .next ((s.enterOne q o).loadIndex q (s.address o))

/-- `LA`, op C2 (R206). -/
def execLaZ0 (q : Byte) (a1 : Word) (s : State) : Result :=
  laForm q (.direct a1) s

/-- `LA`, op D2 (R206). -/
def execLaZ1 (q : Byte) (d1 : Byte) (s : State) : Result :=
  laForm q (.xr1 d1) s

/-- `LA`, op E2 (R206). -/
def execLaZ2 (q : Byte) (d1 : Byte) (s : State) : Result :=
  laForm q (.xr2 d1) s

end Sys2Proof.Machine
end

