-- ==== Sys2Proof/Machine/Decimal.lean ====
section
/-! DEFINITION. The zoned decimal instructions ZAZ, AZ and SZ (spec/40_arithmetic.md R150-R159). -/

namespace Sys2Proof.Machine

/-! ## The recomplement cycle (R157) -/

/-- The start of a recomplement pass: the Q-register is loaded from Q-backup, 'recomplement' and
'complement' are set (R38, R157). -/
def State.startRecomplement (s : State) : State :=
  { s with qReg := s.qBackup, recomplement := true, complement := true }

/-- Read the byte the ARR addresses and subtract 1 from the ARR; the answer is the byte and its address
(R157). -/
def State.takeArr (s : State) : Res (Byte × Word) :=
  (s.readAt .op1 s.arr).bind fun b t => .ok (b, s.arr) (t.setArr (s.arr - 1))

/-- The one recomplement cycle of a negative zero: its rightmost byte gets zone F (R154, R155, R157). "Add X and
Y registers", zero minus the byte, sets the carry trigger, the inverse of the borrow (log 16). -/
def State.clearNegativeZero (s : State) : Res Unit :=
  s.startRecomplement.takeArr.bind fun p s =>
    (s.setCarry (!(decsub 0 (num p.1) false).2)).writeAt .op1 p.2 (zoned 0xF (num p.1))

/-! ## ZAZ (R154) -/

/-- What a `ZAZ` pass has found: operand 2 is negative, a digit was not zero. -/
structure ZazAcc where
  n2 : Bool
  nz : Bool
  deriving DecidableEq, Repr

/-- Byte cycle `i` of `ZAZ`: a byte of operand 2 with its zone forced, or the fill byte hex F0. -/
def zazCycle (l2 i : Nat) (acc : ZazAcc) (s : State) : Res ZazAcc :=
  let s := s.countDecimalQ
  if i < l2 then
    s.takeOp2.bind fun y s =>
      let n2 := if i = 0 then isNegativeZone (zone y) else acc.n2
      (s.storeOp1 (zoned (signZone (decide (i = 0) && n2)) (num y))).bind fun _ s =>
        .ok ⟨n2, acc.nz || num y != 0⟩ s.endCycle
  else
    (s.storeOp1 0xF0).bind fun _ s => .ok acc s.endCycle

/-- `ZAZ`: zero and add zoned (R154). -/
def zazRun (q : Byte) (s : State) : Res Unit :=
  (loop (zazCycle (length2 q)) (length1 q) 0 ⟨false, false⟩ s).bind fun acc s =>
    (if acc.n2 && !acc.nz then s.clearNegativeZero else .ok () s).bind fun _ s =>
      .ok () (s.setPsr (setResult s.psr acc.nz acc.n2))

/-- `ZAZ` in any addressing (R154). -/
def zazForm (q : Byte) (o1 o2 : Operand) (s : State) : Result :=
  (zazRun q (s.enterDecimal q o1 o2)).outcome

/-- `ZAZ`, op 04 (R154). -/
def execZazX00 (q : Byte) (a1 : Word) (a2 : Word) (s : State) : Result :=
  zazForm q (.direct a1) (.direct a2) s

/-- `ZAZ`, op 14 (R154). -/
def execZazX01 (q : Byte) (a1 : Word) (d2 : Byte) (s : State) : Result :=
  zazForm q (.direct a1) (.xr1 d2) s

/-- `ZAZ`, op 24 (R154). -/
def execZazX02 (q : Byte) (a1 : Word) (d2 : Byte) (s : State) : Result :=
  zazForm q (.direct a1) (.xr2 d2) s

/-- `ZAZ`, op 44 (R154). -/
def execZazX10 (q : Byte) (d1 : Byte) (a2 : Word) (s : State) : Result :=
  zazForm q (.xr1 d1) (.direct a2) s

/-- `ZAZ`, op 54 (R154). -/
def execZazX11 (q : Byte) (d1 : Byte) (d2 : Byte) (s : State) : Result :=
  zazForm q (.xr1 d1) (.xr1 d2) s

/-- `ZAZ`, op 64 (R154). -/
def execZazX12 (q : Byte) (d1 : Byte) (d2 : Byte) (s : State) : Result :=
  zazForm q (.xr1 d1) (.xr2 d2) s

/-- `ZAZ`, op 84 (R154). -/
def execZazX20 (q : Byte) (d1 : Byte) (a2 : Word) (s : State) : Result :=
  zazForm q (.xr2 d1) (.direct a2) s

/-- `ZAZ`, op 94 (R154). -/
def execZazX21 (q : Byte) (d1 : Byte) (d2 : Byte) (s : State) : Result :=
  zazForm q (.xr2 d1) (.xr1 d2) s

/-- `ZAZ`, op A4 (R154). -/
def execZazX22 (q : Byte) (d1 : Byte) (d2 : Byte) (s : State) : Result :=
  zazForm q (.xr2 d1) (.xr2 d2) s

/-! ## AZ and SZ (R155, R156) -/

/-- What a pass of `AZ` or `SZ` carries from byte to byte: the carry or borrow, a digit was not zero,
operand 1 is negative, the operands' magnitudes are subtracted. -/
structure AddAcc where
  c : Bool
  nz : Bool
  n1 : Bool
  comp : Bool
  deriving DecidableEq, Repr

/-- The decimal step of one byte: a subtraction in complement mode, else an addition (R152, R155). -/
def decimalStep (comp : Bool) (a b : BitVec 4) (c : Bool) : BitVec 4 × Bool :=
  if comp then decsub a b c else decadd a b c

/-- The operand 2 byte of cycle `i`, or hex 00 when operand 2 is exhausted (R155). -/
def takeDigit2 (l2 i : Nat) (s : State) : Res Byte :=
  if i < l2 then s.takeOp2 else .ok 0x00 s

/-- Byte cycle `i` of the first pass of `AZ` (`sub` false) or `SZ` (`sub` true) (R155). In complement mode
the carry trigger holds the inverse of the borrow (R156; log 16). -/
def addCycle (sub : Bool) (l2 i : Nat) (acc : AddAcc) (s : State) : Res AddAcc :=
  (takeDigit2 l2 i s.countDecimalQ).bind fun y s =>
    s.readOp1.bind fun x s =>
      let n1 := if i = 0 then isNegativeZone (zone x) else acc.n1
      let n2 := isNegativeZone (zone y) ^^ sub
      let comp := if i = 0 then n1 != n2 else acc.comp
      let r := decimalStep comp (num x) (num y) acc.c
      let s := (s.raiseComplement comp).setCarry (r.2 != comp)
      (s.storeOp1 (zoned (signZone (decide (i = 0) && n1)) r.1)).bind fun _ s =>
        .ok ⟨r.2, acc.nz || r.1 != 0, n1, comp⟩ s.endCycle

/-- What a recomplement pass carries: the borrow, and that a digit was not zero. -/
structure RecompAcc where
  c : Bool
  nz : Bool
  deriving DecidableEq, Repr

/-- Cycle `i` of a full recomplement pass: zero minus the byte the ARR addresses; the sign stored by the
first pass is inverted (R155, R157). -/
def recomplementCycle (n1 : Bool) (i : Nat) (acc : RecompAcc) (s : State) : Res RecompAcc :=
  let s := if i = 0 then s else { s with qReg := countNibbles s.qReg }
  s.takeArr.bind fun p s =>
    let r := decsub 0 (num p.1) acc.c
    ((s.setCarry (!r.2)).writeAt .op1 p.2 (zoned (signZone (decide (i = 0) && !n1)) r.1)).bind fun _ s =>
      .ok ⟨r.2, acc.nz || r.1 != 0⟩ s

/-- The end of `AZ` and `SZ`: Equal, Low and High of the stored result (R155, decision D20). -/
def finishAdd (nz neg : Bool) (s : State) : Res Unit := .ok () (s.setPsr (setResult s.psr nz neg))

/-- The passes of `AZ` and `SZ` after the first: none, the negative-zero cycle, or a full recomplement
(R155, R157); a carry out of a true addition sets Decimal overflow, which nothing here resets. -/
def settleAdd (l1 : Nat) (acc : AddAcc) (s : State) : Res Unit :=
  let s := if !acc.comp && acc.c then s.setPsr (setFlag s.psr psrDO true) else s
  if acc.comp && acc.c then
    (loop (recomplementCycle acc.n1) l1 0 ⟨false, false⟩ s.startRecomplement).bind fun r s =>
      finishAdd r.nz (!acc.n1) s
  else if acc.n1 && !acc.nz then
    s.clearNegativeZero.bind fun _ s => finishAdd acc.nz false s
  else finishAdd acc.nz acc.n1 s

/-- `zoned_addsub(sub)` of R155. -/
def zonedAddSub (sub : Bool) (q : Byte) (s : State) : Res Unit :=
  (loop (addCycle sub (length2 q)) (length1 q) 0 ⟨false, false, false, false⟩ s).bind fun acc s =>
    settleAdd (length1 q) acc s

/-- `AZ`: add zoned decimal, in any addressing (R155). -/
def azForm (q : Byte) (o1 o2 : Operand) (s : State) : Result :=
  (zonedAddSub false q (s.enterDecimal q o1 o2)).outcome

/-- `SZ`: subtract zoned decimal, in any addressing (R156). -/
def szForm (q : Byte) (o1 o2 : Operand) (s : State) : Result :=
  (zonedAddSub true q (s.enterDecimal q o1 o2)).outcome

/-- `AZ`, op 06 (R155). -/
def execAzX00 (q : Byte) (a1 : Word) (a2 : Word) (s : State) : Result :=
  azForm q (.direct a1) (.direct a2) s

/-- `AZ`, op 16 (R155). -/
def execAzX01 (q : Byte) (a1 : Word) (d2 : Byte) (s : State) : Result :=
  azForm q (.direct a1) (.xr1 d2) s

/-- `AZ`, op 26 (R155). -/
def execAzX02 (q : Byte) (a1 : Word) (d2 : Byte) (s : State) : Result :=
  azForm q (.direct a1) (.xr2 d2) s

/-- `AZ`, op 46 (R155). -/
def execAzX10 (q : Byte) (d1 : Byte) (a2 : Word) (s : State) : Result :=
  azForm q (.xr1 d1) (.direct a2) s

/-- `AZ`, op 56 (R155). -/
def execAzX11 (q : Byte) (d1 : Byte) (d2 : Byte) (s : State) : Result :=
  azForm q (.xr1 d1) (.xr1 d2) s

/-- `AZ`, op 66 (R155). -/
def execAzX12 (q : Byte) (d1 : Byte) (d2 : Byte) (s : State) : Result :=
  azForm q (.xr1 d1) (.xr2 d2) s

/-- `AZ`, op 86 (R155). -/
def execAzX20 (q : Byte) (d1 : Byte) (a2 : Word) (s : State) : Result :=
  azForm q (.xr2 d1) (.direct a2) s

/-- `AZ`, op 96 (R155). -/
def execAzX21 (q : Byte) (d1 : Byte) (d2 : Byte) (s : State) : Result :=
  azForm q (.xr2 d1) (.xr1 d2) s

/-- `AZ`, op A6 (R155). -/
def execAzX22 (q : Byte) (d1 : Byte) (d2 : Byte) (s : State) : Result :=
  azForm q (.xr2 d1) (.xr2 d2) s

/-- `SZ`, op 07 (R156). -/
def execSzX00 (q : Byte) (a1 : Word) (a2 : Word) (s : State) : Result :=
  szForm q (.direct a1) (.direct a2) s

/-- `SZ`, op 17 (R156). -/
def execSzX01 (q : Byte) (a1 : Word) (d2 : Byte) (s : State) : Result :=
  szForm q (.direct a1) (.xr1 d2) s

/-- `SZ`, op 27 (R156). -/
def execSzX02 (q : Byte) (a1 : Word) (d2 : Byte) (s : State) : Result :=
  szForm q (.direct a1) (.xr2 d2) s

/-- `SZ`, op 47 (R156). -/
def execSzX10 (q : Byte) (d1 : Byte) (a2 : Word) (s : State) : Result :=
  szForm q (.xr1 d1) (.direct a2) s

/-- `SZ`, op 57 (R156). -/
def execSzX11 (q : Byte) (d1 : Byte) (d2 : Byte) (s : State) : Result :=
  szForm q (.xr1 d1) (.xr1 d2) s

/-- `SZ`, op 67 (R156). -/
def execSzX12 (q : Byte) (d1 : Byte) (d2 : Byte) (s : State) : Result :=
  szForm q (.xr1 d1) (.xr2 d2) s

/-- `SZ`, op 87 (R156). -/
def execSzX20 (q : Byte) (d1 : Byte) (a2 : Word) (s : State) : Result :=
  szForm q (.xr2 d1) (.direct a2) s

/-- `SZ`, op 97 (R156). -/
def execSzX21 (q : Byte) (d1 : Byte) (d2 : Byte) (s : State) : Result :=
  szForm q (.xr2 d1) (.xr1 d2) s

/-- `SZ`, op A7 (R156). -/
def execSzX22 (q : Byte) (d1 : Byte) (d2 : Byte) (s : State) : Result :=
  szForm q (.xr2 d1) (.xr2 d2) s

end Sys2Proof.Machine
end

