-- ==== Sys2Proof/Machine/Logical.lean ====
section
/-! DEFINITION. Compare, test under mask and branch: CLI, CLC, TBN, TBF and BC (spec/42_logical.md R230-R238). -/

namespace Sys2Proof.Machine

/-! ## CLI and CLC (R230, R231) -/

/-- `CLI`: compare logical immediate, in any addressing (R230). DESIGN CHOICE: the compare leaves the carry
trigger as it was (log 62). -/
def cliForm (q : Byte) (o : Operand) (s : State) : Result :=
  ((s.enterOne q o).takeOp1.bind fun x s => .ok () (s.setPsr (setCompare s.psr x q)).endCycle).outcome

/-- Byte cycle `i` of `CLC`: an unequal pair decides so far; an equal pair sets Equal in the first cycle
only (R231). DESIGN CHOICE: the compare leaves the carry trigger as it was (log 62). -/
def clcCycle (i : Nat) (_ : Unit) (s : State) : Res Unit :=
  s.countQ.takeOp2.bind fun y s =>
    s.takeOp1.bind fun x s =>
      let psr := if x = y && i != 0 then s.psr else setCompare s.psr x y
      .ok () (s.setPsr psr).endCycle

/-- `CLC`: compare logical characters, right to left, every byte read (R231). -/
def clcRun (q : Byte) (s : State) : Res Unit := loop clcCycle (fieldLength q) 0 () s

/-- `CLC` in any addressing (R231). -/
def clcForm (q : Byte) (o1 o2 : Operand) (s : State) : Result := (clcRun q (s.enterTwo q o1 o2)).outcome

/-- `CLI`, op 3D (R230). -/
def execCliY0 (q : Byte) (a1 : Word) (s : State) : Result :=
  cliForm q (.direct a1) s

/-- `CLI`, op 7D (R230). -/
def execCliY1 (q : Byte) (d1 : Byte) (s : State) : Result :=
  cliForm q (.xr1 d1) s

/-- `CLI`, op BD (R230). -/
def execCliY2 (q : Byte) (d1 : Byte) (s : State) : Result :=
  cliForm q (.xr2 d1) s

/-- `CLC`, op 0D (R231). -/
def execClcX00 (q : Byte) (a1 : Word) (a2 : Word) (s : State) : Result :=
  clcForm q (.direct a1) (.direct a2) s

/-- `CLC`, op 1D (R231). -/
def execClcX01 (q : Byte) (a1 : Word) (d2 : Byte) (s : State) : Result :=
  clcForm q (.direct a1) (.xr1 d2) s

/-- `CLC`, op 2D (R231). -/
def execClcX02 (q : Byte) (a1 : Word) (d2 : Byte) (s : State) : Result :=
  clcForm q (.direct a1) (.xr2 d2) s

/-- `CLC`, op 4D (R231). -/
def execClcX10 (q : Byte) (d1 : Byte) (a2 : Word) (s : State) : Result :=
  clcForm q (.xr1 d1) (.direct a2) s

/-- `CLC`, op 5D (R231). -/
def execClcX11 (q : Byte) (d1 : Byte) (d2 : Byte) (s : State) : Result :=
  clcForm q (.xr1 d1) (.xr1 d2) s

/-- `CLC`, op 6D (R231). -/
def execClcX12 (q : Byte) (d1 : Byte) (d2 : Byte) (s : State) : Result :=
  clcForm q (.xr1 d1) (.xr2 d2) s

/-- `CLC`, op 8D (R231). -/
def execClcX20 (q : Byte) (d1 : Byte) (a2 : Word) (s : State) : Result :=
  clcForm q (.xr2 d1) (.direct a2) s

/-- `CLC`, op 9D (R231). -/
def execClcX21 (q : Byte) (d1 : Byte) (d2 : Byte) (s : State) : Result :=
  clcForm q (.xr2 d1) (.xr1 d2) s

/-- `CLC`, op AD (R231). -/
def execClcX22 (q : Byte) (d1 : Byte) (d2 : Byte) (s : State) : Result :=
  clcForm q (.xr2 d1) (.xr2 d2) s

/-! ## TBN and TBF (R232-R234) -/

/-- Test operand 1 and set Test false when `f` of it says so; nothing resets it here (R234). -/
def testOp1 (f : Byte → Bool) (s : State) : Res Unit :=
  s.takeOp1.bind fun x s => .ok () (s.setPsr (if f x then setFlag s.psr psrTF true else s.psr)).endCycle

/-- `TBN`: test bits on masked, in any addressing (R232). -/
def tbnForm (q : Byte) (o : Operand) (s : State) : Result :=
  (testOp1 (fun x => ~~~x &&& q != 0) (s.enterOne q o)).outcome

/-- `TBF`: test bits off masked, in any addressing (R233). -/
def tbfForm (q : Byte) (o : Operand) (s : State) : Result :=
  (testOp1 (fun x => x &&& q != 0) (s.enterOne q o)).outcome

/-- `TBN`, op 38 (R232). -/
def execTbnY0 (q : Byte) (a1 : Word) (s : State) : Result :=
  tbnForm q (.direct a1) s

/-- `TBN`, op 78 (R232). -/
def execTbnY1 (q : Byte) (d1 : Byte) (s : State) : Result :=
  tbnForm q (.xr1 d1) s

/-- `TBN`, op B8 (R232). -/
def execTbnY2 (q : Byte) (d1 : Byte) (s : State) : Result :=
  tbnForm q (.xr2 d1) s

/-- `TBF`, op 39 (R233). -/
def execTbfY0 (q : Byte) (a1 : Word) (s : State) : Result :=
  tbfForm q (.direct a1) s

/-- `TBF`, op 79 (R233). -/
def execTbfY1 (q : Byte) (d1 : Byte) (s : State) : Result :=
  tbfForm q (.xr1 d1) s

/-- `TBF`, op B9 (R233). -/
def execTbfY2 (q : Byte) (d1 : Byte) (s : State) : Result :=
  tbfForm q (.xr2 d1) s

/-! ## BC (R235-R238) -/

/-- What LSR 8 holds after the fetch of a `BC` that does not branch: of a direct address only the high byte
has been read (R238 (c); log 17). -/
def State.passedAddress (s : State) : Operand → Word
  | .direct a => join (hi a) (lo s.lsr8)
  | .xr1 d => s.address (.xr1 d)
  | .xr2 d => s.address (.xr2 d)

/-- `BC`: branch on condition, in any addressing. The IAR holds the next sequential address (R237). -/
def bcForm (q : Byte) (o : Operand) (s : State) : Result :=
  let t := (s.enter q).setPsr (resetTested q s.psr)
  if condMet q s.psr then
    .next ({ t with lsr8 := s.address o, arr := s.iar, iar := s.address o })
  else .next ({ t with lsr8 := s.passedAddress o })

/-- `BC`, op C0 (R237). -/
def execBcZ0 (q : Byte) (a1 : Word) (s : State) : Result :=
  bcForm q (.direct a1) s

/-- `BC`, op D0 (R237). -/
def execBcZ1 (q : Byte) (d1 : Byte) (s : State) : Result :=
  bcForm q (.xr1 d1) s

/-- `BC`, op E0 (R237). -/
def execBcZ2 (q : Byte) (d1 : Byte) (s : State) : Result :=
  bcForm q (.xr2 d1) s

end Sys2Proof.Machine
end

