-- ==== Sys2Proof/Machine/Dispatch.lean ====
section
/-! DEFINITION. `exec`: one arm for each constructor of `Instr`, each one call of that instruction's own
meaning. The state it is given is the one instruction fetch leaves: the IAR holds the next sequential address
(spec/10_state.md R25, spec/30_encoding.md R131). -/

namespace Sys2Proof.Machine

def exec (i : Instr) (s : State) : Host.Outcome State Fault Refusal :=
  match i with
  -- ZAZ (R154)
  | .zazX00 q a1 a2 => Sys2Proof.Machine.execZazX00 q a1 a2 s
  | .zazX01 q a1 d2 => Sys2Proof.Machine.execZazX01 q a1 d2 s
  | .zazX02 q a1 d2 => Sys2Proof.Machine.execZazX02 q a1 d2 s
  | .zazX10 q d1 a2 => Sys2Proof.Machine.execZazX10 q d1 a2 s
  | .zazX11 q d1 d2 => Sys2Proof.Machine.execZazX11 q d1 d2 s
  | .zazX12 q d1 d2 => Sys2Proof.Machine.execZazX12 q d1 d2 s
  | .zazX20 q d1 a2 => Sys2Proof.Machine.execZazX20 q d1 a2 s
  | .zazX21 q d1 d2 => Sys2Proof.Machine.execZazX21 q d1 d2 s
  | .zazX22 q d1 d2 => Sys2Proof.Machine.execZazX22 q d1 d2 s
  -- AZ (R155)
  | .azX00 q a1 a2 => Sys2Proof.Machine.execAzX00 q a1 a2 s
  | .azX01 q a1 d2 => Sys2Proof.Machine.execAzX01 q a1 d2 s
  | .azX02 q a1 d2 => Sys2Proof.Machine.execAzX02 q a1 d2 s
  | .azX10 q d1 a2 => Sys2Proof.Machine.execAzX10 q d1 a2 s
  | .azX11 q d1 d2 => Sys2Proof.Machine.execAzX11 q d1 d2 s
  | .azX12 q d1 d2 => Sys2Proof.Machine.execAzX12 q d1 d2 s
  | .azX20 q d1 a2 => Sys2Proof.Machine.execAzX20 q d1 a2 s
  | .azX21 q d1 d2 => Sys2Proof.Machine.execAzX21 q d1 d2 s
  | .azX22 q d1 d2 => Sys2Proof.Machine.execAzX22 q d1 d2 s
  -- SZ (R156)
  | .szX00 q a1 a2 => Sys2Proof.Machine.execSzX00 q a1 a2 s
  | .szX01 q a1 d2 => Sys2Proof.Machine.execSzX01 q a1 d2 s
  | .szX02 q a1 d2 => Sys2Proof.Machine.execSzX02 q a1 d2 s
  | .szX10 q d1 a2 => Sys2Proof.Machine.execSzX10 q d1 a2 s
  | .szX11 q d1 d2 => Sys2Proof.Machine.execSzX11 q d1 d2 s
  | .szX12 q d1 d2 => Sys2Proof.Machine.execSzX12 q d1 d2 s
  | .szX20 q d1 a2 => Sys2Proof.Machine.execSzX20 q d1 a2 s
  | .szX21 q d1 d2 => Sys2Proof.Machine.execSzX21 q d1 d2 s
  | .szX22 q d1 d2 => Sys2Proof.Machine.execSzX22 q d1 d2 s
  -- ALC (R161)
  | .alcX00 q a1 a2 => Sys2Proof.Machine.execAlcX00 q a1 a2 s
  | .alcX01 q a1 d2 => Sys2Proof.Machine.execAlcX01 q a1 d2 s
  | .alcX02 q a1 d2 => Sys2Proof.Machine.execAlcX02 q a1 d2 s
  | .alcX10 q d1 a2 => Sys2Proof.Machine.execAlcX10 q d1 a2 s
  | .alcX11 q d1 d2 => Sys2Proof.Machine.execAlcX11 q d1 d2 s
  | .alcX12 q d1 d2 => Sys2Proof.Machine.execAlcX12 q d1 d2 s
  | .alcX20 q d1 a2 => Sys2Proof.Machine.execAlcX20 q d1 a2 s
  | .alcX21 q d1 d2 => Sys2Proof.Machine.execAlcX21 q d1 d2 s
  | .alcX22 q d1 d2 => Sys2Proof.Machine.execAlcX22 q d1 d2 s
  -- SLC (R162)
  | .slcX00 q a1 a2 => Sys2Proof.Machine.execSlcX00 q a1 a2 s
  | .slcX01 q a1 d2 => Sys2Proof.Machine.execSlcX01 q a1 d2 s
  | .slcX02 q a1 d2 => Sys2Proof.Machine.execSlcX02 q a1 d2 s
  | .slcX10 q d1 a2 => Sys2Proof.Machine.execSlcX10 q d1 a2 s
  | .slcX11 q d1 d2 => Sys2Proof.Machine.execSlcX11 q d1 d2 s
  | .slcX12 q d1 d2 => Sys2Proof.Machine.execSlcX12 q d1 d2 s
  | .slcX20 q d1 a2 => Sys2Proof.Machine.execSlcX20 q d1 a2 s
  | .slcX21 q d1 d2 => Sys2Proof.Machine.execSlcX21 q d1 d2 s
  | .slcX22 q d1 d2 => Sys2Proof.Machine.execSlcX22 q d1 d2 s
  -- A (R165)
  | .aY0 q a1 => Sys2Proof.Machine.execAY0 q a1 s
  | .aY1 q d1 => Sys2Proof.Machine.execAY1 q d1 s
  | .aY2 q d1 => Sys2Proof.Machine.execAY2 q d1 s
  -- MVX (R190)
  | .mvxX00 q a1 a2 => Sys2Proof.Machine.execMvxX00 q a1 a2 s
  | .mvxX01 q a1 d2 => Sys2Proof.Machine.execMvxX01 q a1 d2 s
  | .mvxX02 q a1 d2 => Sys2Proof.Machine.execMvxX02 q a1 d2 s
  | .mvxX10 q d1 a2 => Sys2Proof.Machine.execMvxX10 q d1 a2 s
  | .mvxX11 q d1 d2 => Sys2Proof.Machine.execMvxX11 q d1 d2 s
  | .mvxX12 q d1 d2 => Sys2Proof.Machine.execMvxX12 q d1 d2 s
  | .mvxX20 q d1 a2 => Sys2Proof.Machine.execMvxX20 q d1 a2 s
  | .mvxX21 q d1 d2 => Sys2Proof.Machine.execMvxX21 q d1 d2 s
  | .mvxX22 q d1 d2 => Sys2Proof.Machine.execMvxX22 q d1 d2 s
  -- MVC (R191)
  | .mvcX00 q a1 a2 => Sys2Proof.Machine.execMvcX00 q a1 a2 s
  | .mvcX01 q a1 d2 => Sys2Proof.Machine.execMvcX01 q a1 d2 s
  | .mvcX02 q a1 d2 => Sys2Proof.Machine.execMvcX02 q a1 d2 s
  | .mvcX10 q d1 a2 => Sys2Proof.Machine.execMvcX10 q d1 a2 s
  | .mvcX11 q d1 d2 => Sys2Proof.Machine.execMvcX11 q d1 d2 s
  | .mvcX12 q d1 d2 => Sys2Proof.Machine.execMvcX12 q d1 d2 s
  | .mvcX20 q d1 a2 => Sys2Proof.Machine.execMvcX20 q d1 a2 s
  | .mvcX21 q d1 d2 => Sys2Proof.Machine.execMvcX21 q d1 d2 s
  | .mvcX22 q d1 d2 => Sys2Proof.Machine.execMvcX22 q d1 d2 s
  -- ED (R193)
  | .edX00 q a1 a2 => Sys2Proof.Machine.execEdX00 q a1 a2 s
  | .edX01 q a1 d2 => Sys2Proof.Machine.execEdX01 q a1 d2 s
  | .edX02 q a1 d2 => Sys2Proof.Machine.execEdX02 q a1 d2 s
  | .edX10 q d1 a2 => Sys2Proof.Machine.execEdX10 q d1 a2 s
  | .edX11 q d1 d2 => Sys2Proof.Machine.execEdX11 q d1 d2 s
  | .edX12 q d1 d2 => Sys2Proof.Machine.execEdX12 q d1 d2 s
  | .edX20 q d1 a2 => Sys2Proof.Machine.execEdX20 q d1 a2 s
  | .edX21 q d1 d2 => Sys2Proof.Machine.execEdX21 q d1 d2 s
  | .edX22 q d1 d2 => Sys2Proof.Machine.execEdX22 q d1 d2 s
  -- ITC (R196)
  | .itcX00 q a1 a2 => Sys2Proof.Machine.execItcX00 q a1 a2 s
  | .itcX01 q a1 d2 => Sys2Proof.Machine.execItcX01 q a1 d2 s
  | .itcX02 q a1 d2 => Sys2Proof.Machine.execItcX02 q a1 d2 s
  | .itcX10 q d1 a2 => Sys2Proof.Machine.execItcX10 q d1 a2 s
  | .itcX11 q d1 d2 => Sys2Proof.Machine.execItcX11 q d1 d2 s
  | .itcX12 q d1 d2 => Sys2Proof.Machine.execItcX12 q d1 d2 s
  | .itcX20 q d1 a2 => Sys2Proof.Machine.execItcX20 q d1 a2 s
  | .itcX21 q d1 d2 => Sys2Proof.Machine.execItcX21 q d1 d2 s
  | .itcX22 q d1 d2 => Sys2Proof.Machine.execItcX22 q d1 d2 s
  -- MVI (R198)
  | .mviY0 q a1 => Sys2Proof.Machine.execMviY0 q a1 s
  | .mviY1 q d1 => Sys2Proof.Machine.execMviY1 q d1 s
  | .mviY2 q d1 => Sys2Proof.Machine.execMviY2 q d1 s
  -- SBN (R199)
  | .sbnY0 q a1 => Sys2Proof.Machine.execSbnY0 q a1 s
  | .sbnY1 q d1 => Sys2Proof.Machine.execSbnY1 q d1 s
  | .sbnY2 q d1 => Sys2Proof.Machine.execSbnY2 q d1 s
  -- SBF (R200)
  | .sbfY0 q a1 => Sys2Proof.Machine.execSbfY0 q a1 s
  | .sbfY1 q d1 => Sys2Proof.Machine.execSbfY1 q d1 s
  | .sbfY2 q d1 => Sys2Proof.Machine.execSbfY2 q d1 s
  -- ST (R202)
  | .stY0 q a1 => Sys2Proof.Machine.execStY0 q a1 s
  | .stY1 q d1 => Sys2Proof.Machine.execStY1 q d1 s
  | .stY2 q d1 => Sys2Proof.Machine.execStY2 q d1 s
  -- L (R205)
  | .lY0 q a1 => Sys2Proof.Machine.execLY0 q a1 s
  | .lY1 q d1 => Sys2Proof.Machine.execLY1 q d1 s
  | .lY2 q d1 => Sys2Proof.Machine.execLY2 q d1 s
  -- LA (R206)
  | .laZ0 q a1 => Sys2Proof.Machine.execLaZ0 q a1 s
  | .laZ1 q d1 => Sys2Proof.Machine.execLaZ1 q d1 s
  | .laZ2 q d1 => Sys2Proof.Machine.execLaZ2 q d1 s
  -- CLI (R230)
  | .cliY0 q a1 => Sys2Proof.Machine.execCliY0 q a1 s
  | .cliY1 q d1 => Sys2Proof.Machine.execCliY1 q d1 s
  | .cliY2 q d1 => Sys2Proof.Machine.execCliY2 q d1 s
  -- CLC (R231)
  | .clcX00 q a1 a2 => Sys2Proof.Machine.execClcX00 q a1 a2 s
  | .clcX01 q a1 d2 => Sys2Proof.Machine.execClcX01 q a1 d2 s
  | .clcX02 q a1 d2 => Sys2Proof.Machine.execClcX02 q a1 d2 s
  | .clcX10 q d1 a2 => Sys2Proof.Machine.execClcX10 q d1 a2 s
  | .clcX11 q d1 d2 => Sys2Proof.Machine.execClcX11 q d1 d2 s
  | .clcX12 q d1 d2 => Sys2Proof.Machine.execClcX12 q d1 d2 s
  | .clcX20 q d1 a2 => Sys2Proof.Machine.execClcX20 q d1 a2 s
  | .clcX21 q d1 d2 => Sys2Proof.Machine.execClcX21 q d1 d2 s
  | .clcX22 q d1 d2 => Sys2Proof.Machine.execClcX22 q d1 d2 s
  -- TBN (R232)
  | .tbnY0 q a1 => Sys2Proof.Machine.execTbnY0 q a1 s
  | .tbnY1 q d1 => Sys2Proof.Machine.execTbnY1 q d1 s
  | .tbnY2 q d1 => Sys2Proof.Machine.execTbnY2 q d1 s
  -- TBF (R233)
  | .tbfY0 q a1 => Sys2Proof.Machine.execTbfY0 q a1 s
  | .tbfY1 q d1 => Sys2Proof.Machine.execTbfY1 q d1 s
  | .tbfY2 q d1 => Sys2Proof.Machine.execTbfY2 q d1 s
  -- BC (R237)
  | .bcZ0 q a1 => Sys2Proof.Machine.execBcZ0 q a1 s
  | .bcZ1 q d1 => Sys2Proof.Machine.execBcZ1 q d1 s
  | .bcZ2 q d1 => Sys2Proof.Machine.execBcZ2 q d1 s
  -- JC (R261)
  | .jc q r => Sys2Proof.Machine.execJc q r s
  -- LPMR (R263)
  | .lpmr q r => Sys2Proof.Machine.execLpmr q r s
  -- SVC (R265)
  | .svc q r => Sys2Proof.Machine.execSvc q r s

end Sys2Proof.Machine
end

