-- ==== Sys2Proof/Machine/Fetch.lean ====
section
/-! DEFINITION. Instruction fetch, byte by byte (spec/30_encoding.md R131, spec/10_state.md R25, R30, R31):
the IAR is increased after each byte, the registers are loaded as the bytes arrive, and a failing access
leaves the IAR at the byte whose fetch failed. -/

namespace Sys2Proof.Machine

/-- Read the instruction byte the IAR addresses and add 1 to the IAR (R25, R131). DESIGN CHOICE: the addition
leaves the carry trigger as it was (log 67). -/
def State.fetchByte (s : State) : Res Byte :=
  (s.readAt .i s.iar).bind fun b s => .ok b (s.setIar (s.iar + 1))

/-- The MSP hands an instruction with this op byte to the control processor: `SVC`, or no instruction (R128,
R265, R283). -/
def isNonexecutable (op : Byte) : Bool :=
  match headerOf op with
  | some (.cmd .svc) => true
  | some (.cmd .jc) => false
  | some (.cmd .lpmr) => false
  | some (.two _ _ _) => false
  | some (.one _ _) => false
  | some (.addr _ _) => false
  | none => true

/-- The op byte enters the operation register and LSR 11 high; status byte 2 bit 0 follows its decode (R30,
R283). -/
def State.latchOp (s : State) (op : Byte) : State :=
  { s with opReg := op, lsr11Op := op, nonexecutable := isNonexecutable op }

/-- The Q-byte enters Q-backup, the Q-register and LSR 11 low (R31, R131). -/
def State.latchQ (s : State) (q : Byte) : State := { s with qBackup := q, qReg := q, lsr11Q := q }

/-- Replace LSR 8. -/
def State.setLsr8 (s : State) (a : Word) : State := { s with lsr8 := a }

/-- Replace LSR 9. -/
def State.setLsr9 (s : State) (a : Word) : State := { s with lsr9 := a }

/-- Fetch the bytes of operand 1's address into LSR 8 (R116, R131). -/
def State.fetchOperand1 (m : Mode) (s : State) : Res (List Byte) :=
  s.fetchByte.bind fun b s =>
    match m with
    | .direct =>
      (s.setLsr8 (join b (lo s.lsr8))).fetchByte.bind fun l s => .ok [b, l] (s.setLsr8 (join b l))
    | .xr1 => .ok [b] (s.setLsr8 (s.address (.xr1 b)))
    | .xr2 => .ok [b] (s.setLsr8 (s.address (.xr2 b)))

/-- Fetch the bytes of operand 2's address into LSR 9 (R116, R131). -/
def State.fetchOperand2 (m : Mode) (s : State) : Res (List Byte) :=
  s.fetchByte.bind fun b s =>
    match m with
    | .direct =>
      (s.setLsr9 (join b (lo s.lsr9))).fetchByte.bind fun l s => .ok [b, l] (s.setLsr9 (join b l))
    | .xr1 => .ok [b] (s.setLsr9 (s.address (.xr1 b)))
    | .xr2 => .ok [b] (s.setLsr9 (s.address (.xr2 b)))

/-- Fetch byte 4 of a direct `BC` that branches: the ARR is the pointer that reads it, and steps past it with
the IAR (spec/42_logical.md R238 (b); log 18). -/
def State.fetchThroughArr (s : State) : Res Byte :=
  (s.setArr s.iar).fetchByte.bind fun b s => .ok b (s.setArr s.iar)

/-- Fetch the branch address of a `BC`: byte 4 of a direct `BC` that does not branch is skipped, not read
(spec/42_logical.md R238 (c)); hex 00 stands for it, and nothing depends on it (log 17). -/
def State.fetchBranch (m : Mode) (q : Byte) (s : State) : Res (List Byte) :=
  match m with
  | .direct =>
    if condMet q s.psr then
      s.fetchByte.bind fun h s =>
        (s.setLsr8 (join h (lo s.lsr8))).fetchThroughArr.bind fun l s => .ok [h, l] (s.setLsr8 (join h l))
    else s.fetchByte.bind fun h s =>
      .ok [h, 0x00] ((s.setLsr8 (join h (lo s.lsr8))).setIar (s.iar + 1))
  | .xr1 => s.fetchOperand1 .xr1
  | .xr2 => s.fetchOperand1 .xr2

/-- Fetch the bytes after the Q-byte (R115, R131). -/
def State.fetchRest (h : Header) (q : Byte) (s : State) : Res (List Byte) :=
  match h with
  | .two _ m1 m2 =>
    (s.fetchOperand1 m1).bind fun b1 s => (s.fetchOperand2 m2).bind fun b2 s => .ok (b1 ++ b2) s
  | .one _ m => s.fetchOperand1 m
  | .addr .bc m => s.fetchBranch m q
  | .addr .la m => s.fetchOperand1 m
  | .cmd _ => s.fetchByte.bind fun r s => .ok [r] s

/-- The stop at an undefined op code: the op and Q bytes have been fetched; how far the IAR has gone beyond
them is a free value (R128, R289, D13; log 10). -/
def State.stopUndefined (s : State) (op : Byte) : State :=
  ({ s with iar := s.iar + Config.freeAdvance s.freeCount, freeCount := s.freeCount + 1 }).stop (.nonexecutableOp op)

/-- Fetch one instruction (R131). An undefined op code is recognised after the Q-byte (R291). -/
def State.fetchInstr (s : State) : Res Instr :=
  s.fetchByte.bind fun op s =>
    (s.latchOp op).fetchByte.bind fun q s =>
      let s := s.latchQ q
      match headerOf op with
      | none => .stop (s.stopUndefined op)
      | some h =>
        (s.fetchRest h q).bind fun bytes s =>
          match decode (op :: q :: bytes) with
          | .ok i _ => .ok i s
          | .bad _ => .stop (s.stopUndefined op)

end Sys2Proof.Machine
end

