-- ==== Sys2Proof/Machine/Run.lean ====
section
/-! DEFINITION. One instruction from fetch to end, the turns of the MSP and the control processor, and the
load of an instruction from outside. -/

namespace Sys2Proof.Machine

/-- The address compare of this instruction has not met yet (spec/60_exceptions.md R299). -/
def State.clearCompare (s : State) : State := { s with compareHit := false }

/-- FREE VALUE: the scratch registers hold nothing a later instruction can see (spec/10_state.md R32, R55;
log 12). -/
def State.freeScratch (s : State) : State :=
  let f := Config.freeScratch s.freeCount
  { s with
    xHigh := f.extractLsb' 16 8
    xLow := f.extractLsb' 8 8
    y := f.extractLsb' 0 8
    freeCount := s.freeCount + 1 }

/-- What the end of an instruction adds: the scratch registers are free; an address compare stops the MSP if
nothing else has (R291, R299); in step mode the clock stops (R299; log 29). -/
def State.endInstruction (s : State) : State :=
  let s := s.freeScratch
  if s.stopped.isSome then s
  else if s.compareHit then s.stop .addressCompare
  else if s.stepMode then { s with clockRun := false }
  else s

/-- The end of an instruction, on each outcome of its meaning. -/
def finish : Result → Result
  | .next s => .next s.endInstruction
  | .fault r => .fault r
  | .refused r => .refused r

/-- Fetch an instruction, execute it, end it (R131, spec/70_reset_and_hazards.md R335). -/
def runInstruction (s : State) : Result :=
  match s.clearCompare.fetchInstr with
  | .ok i t => finish (exec i t)
  | .stop t => .next t.endInstruction

/-- One step of the system: the control processor's pending action when it has one, else an instruction of
the MSP; stuck when the clock is stopped and no action is pending (R297, D17; log 6, 7). -/
def stepSystem (s : State) : Result :=
  match s.host with
  | [] => if s.clockRun then runInstruction s else .fault .clockStopped
  | .awaitStop :: rest => if s.clockRun then runInstruction s else .next { s with host := rest }
  | .letInstruction :: rest =>
    if s.clockRun then runInstruction { s with host := rest } else .next { s with host := rest }
  | a :: rest => .next (State.perform { s with host := rest } a)

/-- Store a byte where the fetch of the byte `k` places after the IAR reads it; a byte the fetch cannot
read is not stored. -/
def State.pokeFetch (s : State) (k : Nat) (b : Byte) : State :=
  match s.readCheck .i (s.iar + BitVec.ofNat 16 k) with
  | .ok ra => s.putByte ra b
  | .error _ => s

/-- Store bytes from the `k`-th place after the IAR on. -/
def State.pokeAll (s : State) : Nat → List Byte → State
  | _, [] => s
  | k, b :: bs => (s.pokeFetch k b).pokeAll (k + 1) bs

/-- The control processor has loaded an instruction where the MSP fetches next, has no action pending, and
has started the clock (R321; log 4). -/
def State.loadedWith (s : State) (bytes : List Byte) : State :=
  ({ s.startClock with host := [] }).pokeAll 0 bytes

end Sys2Proof.Machine
end

