-- ==== Sys2Proof/Machine/Step.lean ====
section
/-! DEFINITION. `step`, and the state with an instruction placed where it fetches. -/

namespace Sys2Proof.Machine

/-- One step of the machine (`stepSystem`). -/
def step (s : State) : Host.Outcome State Fault Refusal := stepSystem s

/-- `s` with the instruction of the low `nbits` bits of `w` (numbered from the least significant bit of its
first byte) stored where the next step fetches it, and the clock started (log 4). -/
def State.withFetchWord (s : State) (nbits w : Nat) : State := s.loadedWith (tableBytes nbits w)

end Sys2Proof.Machine
end

