-- ==== Sys2Proof/WellFormed.lean ====
section
/-! DEFINITION. Well-formedness: every field of `Instr` has exactly the width its encoding gives it, so the
one thing an instruction can get wrong is a reserved register-select Q-byte (spec/30_encoding.md R124, R129).
The other odd Q-bytes of R129 are ignored bits, and well formed (decisions D7, D8, D18, D28). -/

namespace Sys2Proof

/-- A register-select Q-byte of R124's table: none (hex 00) or exactly one of the six defined bits. -/
def definedSelect (q : Byte) : Bool :=
  q == 0x00 || q == 0x01 || q == 0x02 || q == 0x04 || q == 0x08 || q == 0x10 || q == 0x20

/-- The Q-byte of a form is one the spec gives a behaviour (R129). -/
def Form.wellFormed : Form → Bool
  | .one .st q _ => definedSelect q
  | .one .l q _ => definedSelect q
  | .one .a q _ => definedSelect q
  | .one .tbn _ _ => true
  | .one .tbf _ _ => true
  | .one .sbn _ _ => true
  | .one .sbf _ _ => true
  | .one .mvi _ _ => true
  | .one .cli _ _ => true
  | .two _ _ _ _ => true
  | .addr _ _ _ => true
  | .cmd _ _ _ => true

/-- The instruction is one the spec gives a behaviour (R129). -/
abbrev WellFormed (i : Instr) : Prop := i.form.wellFormed = true

end Sys2Proof
end

