-- ==== Sys2Proof/Safety.lean ====
section
/-! DEFINITION. The terms claims are stated in: the storage an access reaches, the value of a field, what a
completed instruction leaves alone, and the invariant of the machine. -/

namespace Sys2Proof.Machine

/-! ## Accesses and fields -/

/-- A read of this kind at this logical address is made and raises no event (spec/20_memory.md R80). -/
def State.canRead (s : State) (k : Kind) (la : Word) : Bool :=
  match s.readCheck k la with
  | .ok _ => true
  | .error _ => false

/-- A write of this kind at this logical address is made and raises no event (R80, R85). -/
def State.canWrite (s : State) (k : Kind) (la : Word) : Bool :=
  match s.writeCheck k la with
  | .ok _ => true
  | .error _ => false

/-- The real address an access goes to (R80); 0 where it raises an event. -/
def State.target (s : State) (k : Kind) (la : Word) : RealAddr :=
  match s.realOf k la with
  | .ok ra => ra
  | .error _ => 0

/-- The byte an access finds. -/
def State.peek (s : State) (k : Kind) (la : Word) : Byte := s.byteAt (s.target k la)

/-- The PMR bit that has accesses of a kind translated, as a mask (spec/10_state.md R40). -/
def translateMask : Kind → Byte
  | .i => 0x08
  | .op2 => 0x04
  | .op1 => 0x02

/-- The `n` bytes of a field that ends at `a` can be read (R11, R73). -/
abbrev State.FieldReadable (s : State) (k : Kind) (a : Word) (n : Nat) : Prop :=
  ∀ i < n, s.canRead k (a - BitVec.ofNat 16 i) = true

/-- The `n` bytes of the operand 1 field that ends at `a` can be written. -/
abbrev State.FieldWritable (s : State) (a : Word) (n : Nat) : Prop :=
  ∀ i < n, s.canWrite .op1 (a - BitVec.ofNat 16 i) = true

/-- The `n` bytes of the operand 1 field that ends at `a` lie at `n` different real addresses. -/
abbrev State.FieldDistinct (s : State) (a : Word) (n : Nat) : Prop :=
  ∀ i < n, ∀ j < n, s.target .op1 (a - BitVec.ofNat 16 i) = s.target .op1 (a - BitVec.ofNat 16 j) → i = j

/-- The operand 1 field (`n1` bytes ending at `a1`) and the operand 2 field (`n2` bytes ending at `a2`) share
no real address. -/
abbrev State.FieldsDisjoint (s : State) (a1 : Word) (n1 : Nat) (a2 : Word) (n2 : Nat) : Prop :=
  ∀ i < n1, ∀ j < n2, s.target .op1 (a1 - BitVec.ofNat 16 i) ≠ s.target .op2 (a2 - BitVec.ofNat 16 j)

/-- No operand 2 byte lies where a byte-serial pass, right to left, has stored an operand 1 byte before reading
it: the fields are apart, the same, or overlap so that each source byte is read before it is overwritten
(spec/41_data_control.md R192). -/
abbrev State.SourceKept (s : State) (a1 : Word) (n1 : Nat) (a2 : Word) (n2 : Nat) : Prop :=
  ∀ i < n2, ∀ j < i, j < n1 → s.target .op1 (a1 - BitVec.ofNat 16 j) ≠ s.target .op2 (a2 - BitVec.ofNat 16 i)

/-- The unsigned binary value of the `n` bytes that end at `a`, the rightmost least significant (R71). -/
def State.fieldNat (s : State) (k : Kind) : Word → Nat → Nat
  | _, 0 => 0
  | a, n + 1 => (s.peek k a).toNat + 256 * s.fieldNat k (a - 1) n

/-- The magnitude of the zoned decimal field of `n` bytes that ends at `a` (spec/40_arithmetic.md R150). -/
def State.magnitude (s : State) (k : Kind) : Word → Nat → Nat
  | _, 0 => 0
  | a, n + 1 => (num (s.peek k a)).toNat + 10 * s.magnitude k (a - 1) n

/-- Every numeric part of the field is a decimal digit. -/
abbrev State.DecimalField (s : State) (k : Kind) (a : Word) (n : Nat) : Prop :=
  ∀ i < n, (num (s.peek k (a - BitVec.ofNat 16 i))).toNat < 10

/-- The zoned decimal field that ends at `a` is negative: the zone of its rightmost byte is hex D (R150, D1). -/
def State.isMinus (s : State) (k : Kind) (a : Word) : Bool := zone (s.peek k a) == 0xD

/-- The signed value of a zoned decimal field: minus when the zone of its rightmost byte says so (R150). -/
def State.decimalValue (s : State) (k : Kind) (a : Word) (n : Nat) : Int :=
  if s.isMinus k a then -(s.magnitude k a n : Int) else s.magnitude k a n

/-- How many of the `n` bytes ending at `a` of operand 1 hold hex 20 (spec/41_data_control.md R193). -/
def State.count20 (s : State) : Word → Nat → Nat
  | _, 0 => 0
  | a, n + 1 => (if s.peek .op1 a = 0x20 then 1 else 0) + s.count20 (a - 1) n

/-- The program status byte with High, Low and Equal replaced by the three bits of `c`, the others as they were
(spec/10_state.md R26, R27). -/
def withCondition (psr c : Byte) : Byte := (psr &&& 0xF8) ||| c

/-- Equal for a zero result, else Low when it is negative, else High: the code of the last three bits (R26). -/
def conditionOf (zero low : Bool) : Byte := if zero then 0x01 else if low then 0x02 else 0x04

/-- The program status byte after `ALC` or `A`: High, Low, Equal from the result and the carry, Binary overflow
the carry (spec/40_arithmetic.md R161, R165). -/
def withSum (psr : Byte) (zero carry : Bool) : Byte :=
  (psr &&& 0xD8) ||| (if carry then 0x20 else 0x00) ||| conditionOf zero (!carry)

/-- The condition of `BC` and `JC` holds: with Q bit 0 on some tested indicator is on, with it off all tested
are off (spec/42_logical.md R235). -/
abbrev Branches (q psr : Byte) : Prop :=
  if q &&& 0x80 = 0x80 then q &&& psr &&& 0x3F ≠ 0 else q &&& psr &&& 0x3F = 0

/-- One of the three op codes of a one-address instruction, by its addressing (spec/30_encoding.md R112). -/
def byAddressing (o : Operand) (direct xr1 xr2 : Byte) : Byte :=
  match o with
  | .direct _ => direct
  | .xr1 _ => xr1
  | .xr2 _ => xr2

/-- The two bytes `ST` stores for a register-select Q-byte (spec/41_data_control.md R202, R203). -/
def State.selected (s : State) (q : Byte) : Option Word :=
  match q with
  | 0x01#8 => some s.xr1
  | 0x02#8 => some s.xr2
  | 0x04#8 => some (0x04#8 ++ (s.psr &&& 0x3F))
  | 0x08#8 => some s.arr
  | 0x10#8 => some s.iar
  | 0x20#8 => some s.iar
  | _ => none

/-- The state with the local storage register of a register-select Q-byte replaced (R124, R205); none for the
PSR, no register and the reserved values. -/
def State.withSelected (s : State) (q : Byte) (v : Word) : Option State :=
  match q with
  | 0x01#8 => some { s with xr1 := v }
  | 0x02#8 => some { s with xr2 := v }
  | 0x08#8 => some { s with arr := v }
  | 0x10#8 => some { s with iar := v }
  | 0x20#8 => some { s with iar := v }
  | _ => none

/-! ## What a completed instruction leaves alone -/

/-- The registers a program can reach (spec/10_state.md R20-R29, R40), with the PSR's LSR copy (which only
`L` and `A` with the PSR selected write, by log 68) and the LCRR. -/
abbrev SameVisible (s t : State) : Prop :=
  t.iar = s.iar ∧ t.xr1 = s.xr1 ∧ t.xr2 = s.xr2 ∧ t.arr = s.arr ∧ t.psr = s.psr ∧ t.pmr = s.pmr ∧
    t.lcrr = s.lcrr ∧ t.psrLsr = s.psrLsr

/-- The registers and lines that belong to the control processor's side and the configuration: no
instruction changes any of them (spec/10_state.md R41-R45, R47-R49). -/
abbrev SameControl (s t : State) : Prop :=
  t.atr = s.atr ∧ t.cmr = s.cmr ∧ t.bmr = s.bmr ∧ t.ccr = s.ccr ∧ t.acr = s.acr ∧
    t.lsrReserved = s.lsrReserved ∧ t.stepMode = s.stepMode ∧ t.ceAddressStop = s.ceAddressStop ∧
    t.controlGateCheck = s.controlGateCheck ∧ t.lsrGateCheck = s.lsrGateCheck ∧
    t.storageGateCheck = s.storageGateCheck ∧ t.addressCheck = s.addressCheck ∧
    t.processorError = s.processorError ∧ t.cfg = s.cfg ∧ t.host = s.host

/-- No stop was taken: the status bytes, the clock and the level 5 line are as before
(spec/60_exceptions.md R281, R283). -/
abbrev NoStop (s t : State) : Prop :=
  t.stopped = s.stopped ∧ t.clockRun = s.clockRun ∧ t.level5 = s.level5 ∧ t.sb3 = s.sb3 ∧
    t.nonexecutable = s.nonexecutable ∧ t.clock = s.clock

/-- The registers of the sequencing that no execution phase writes, and the Q-byte where fetch leaves it: the
operation register, LSR 11, Q-backup, the scratch registers (R30, R31, R32). -/
abbrev SameSequencing (s t : State) (q : Byte) : Prop :=
  t.opReg = s.opReg ∧ t.lsr11Op = s.lsr11Op ∧ t.lsr11Q = q ∧ t.qBackup = q ∧ t.xHigh = s.xHigh ∧
    t.xLow = s.xLow ∧ t.y = s.y

/-- The instruction with Q-byte `q` has been completed, and nothing but storage, the visible registers, LSR 8
and 9, the Q-register, the MSAR and the latches may differ. -/
abbrev Completes (s t : State) (q : Byte) : Prop := SameControl s t ∧ NoStop s t ∧ SameSequencing s t q

/-- It has been completed, and the carry trigger and LSR 9 are as before too: a one-address or command
instruction that adds nothing (R24, R38; the carry trigger by the model's choice, log 67). -/
abbrev CompletesOne (s t : State) (q : Byte) : Prop :=
  Completes s t q ∧ t.carry = s.carry ∧ t.lsr9 = s.lsr9

/-- The MSP has stopped on `e`: recorded in the status bytes, the clock stopped, level 5 requested (R281,
R283). -/
abbrev StoppedOn (s t : State) (e : StopEvent) : Prop :=
  t.stopped = some e ∧ t.clockRun = false ∧ t.level5 = true ∧ t.sb3 = s.sb3 ||| e.sb3Bits ∧
    t.nonexecutable = (s.nonexecutable || e.setsNonexecutable)

/-- Main storage is unchanged. -/
def SameStorage (s t : State) : Prop := ∀ ra, t.byteAt ra = s.byteAt ra

/-- The instruction has stopped on `e` and has changed no visible register, no register of the control side
and no byte of storage. -/
abbrev StopsUnchanged (s t : State) (e : StopEvent) : Prop :=
  StoppedOn s t e ∧ SameVisible s t ∧ SameControl s t ∧ SameStorage s t

/-- A cycle that reads the byte of operand 2 at `a2` and then stores into operand 1 at `a1` meets `e` (R80, R90): the
read fails, or the read is made and the store fails. -/
abbrev State.MoveFaults (s : State) (a1 a2 : Word) (e : StopEvent) : Prop :=
  s.readCheck .op2 a2 = .error e ∨ s.canRead .op2 a2 = true ∧ s.writeCheck .op1 a1 = .error e

/-- Main storage after one byte `b` has been stored at the real address `a`, and nothing else. -/
def StorageWith (s t : State) (a : RealAddr) (b : Byte) : Prop :=
  ∀ ra, t.byteAt ra = if ra = a then b else s.byteAt ra

/-- Storage as a function after the byte-serial copy of `n` bytes, right to left, from operand 2 at `a2` to
operand 1 at `a1` (spec/41_data_control.md R191, R192). -/
def serialCopy (s : State) : Word → Word → Nat → (RealAddr → Byte) → (RealAddr → Byte)
  | _, _, 0, m => m
  | a1, a2, n + 1, m =>
    serialCopy s (a1 - 1) (a2 - 1) n
      (Function.update m (s.target .op1 a1) (m (s.target .op2 a2)))

/-- Storage, carry and "some result byte was not zero" after the byte-serial addition of `n` bytes, right to
left (spec/40_arithmetic.md R160, R161). -/
def serialAdd (s : State) : Word → Word → Nat → (RealAddr → Byte) → Bool → Bool →
    (RealAddr → Byte) × Bool × Bool
  | _, _, 0, m, c, nz => (m, c, nz)
  | a1, a2, n + 1, m, c, nz =>
    let sum := (m (s.target .op1 a1)).toNat + (m (s.target .op2 a2)).toNat + c.toNat
    serialAdd s (a1 - 1) (a2 - 1) n (Function.update m (s.target .op1 a1) (BitVec.ofNat 8 sum))
      (decide (256 ≤ sum)) (nz || decide (sum % 256 ≠ 0))

/-- Storage, borrow and "some result byte was not zero" after the byte-serial subtraction of `n` bytes (R160,
R162). -/
def serialSub (s : State) : Word → Word → Nat → (RealAddr → Byte) → Bool → Bool →
    (RealAddr → Byte) × Bool × Bool
  | _, _, 0, m, b, nz => (m, b, nz)
  | a1, a2, n + 1, m, b, nz =>
    let x := (m (s.target .op1 a1)).toNat
    let y := (m (s.target .op2 a2)).toNat + b.toNat
    serialSub s (a1 - 1) (a2 - 1) n (Function.update m (s.target .op1 a1) (BitVec.ofNat 8 (256 + x - y)))
      (decide (x < y)) (nz || decide ((256 + x - y) % 256 ≠ 0))

/-- Some digit that `ED` moves is not zero, over `n` bytes from right to left: each byte is looked at in storage
`m` as the replacements before it have left it (spec/41_data_control.md R193, R194). -/
def editsNonzero (s : State) : Word → Word → Nat → (RealAddr → Byte) → Bool
  | _, _, 0, _ => false
  | a1, a2, n + 1, m =>
    if m (s.target .op1 a1) = 0x20 then
      let digit := m (s.target .op2 a2) &&& 0x0F
      digit != 0 ||
        editsNonzero s (a1 - 1) (a2 - 1) n (Function.update m (s.target .op1 a1) (0xF0 ||| digit))
    else editsNonzero s (a1 - 1) a2 n m

/-- The logical addresses of the bytes a form can store: the operand 1 field from its right end, for `ITC` from
its left end, two bytes for `ST`; no form stores anything else (R115, spec/41_data_control.md R196, R202). -/
def State.storedAt (s : State) : Form → List Word
  | .two op q o1 _ =>
    match op with
    | .zaz | .az | .sz => (List.range (length1 q)).map fun i => s.address o1 - BitVec.ofNat 16 i
    | .mvc | .alc | .slc | .ed => (List.range (fieldLength q)).map fun i => s.address o1 - BitVec.ofNat 16 i
    | .itc => (List.range (fieldLength q)).map fun i => s.address o1 + BitVec.ofNat 16 i
    | .mvx => [s.address o1]
    | .clc => []
  | .one op _ o =>
    match op with
    | .st => [s.address o, s.address o - 1]
    | .mvi | .sbn | .sbf => [s.address o]
    | .l | .a | .tbn | .tbf | .cli => []
  | .addr _ _ _ => []
  | .cmd _ _ _ => []

/-- Only bytes of the operand 1 field of `n` bytes that ends at `a` may differ. -/
def OnlyField (s t : State) (a : Word) (n : Nat) : Prop :=
  ∀ ra, (∀ i < n, ra ≠ s.target .op1 (a - BitVec.ofNat 16 i)) → t.byteAt ra = s.byteAt ra

/-! ## The invariant -/

/-- What every step keeps: storage is in canonical form and inside the installed size (spec/10_state.md
R52), PSR bits 0-1 are 0 (R26), PMR bits 1-3 are 0 (R40, D31), and a machine that has stopped on an event
has its clock stopped (spec/60_exceptions.md R281). -/
abbrev MachineInv (s : State) : Prop :=
  Memory.wf s.mem = true ∧ Memory.below s.cfg.size.bytes s.mem = true ∧
    s.psr &&& 0xC0 = 0 ∧ s.pmr &&& 0x70 = 0 ∧ (s.stopped.isSome = true → s.clockRun = false)

/-- At most one of High, Low and Equal is on (R27). -/
abbrev OneCondition (psr : Byte) : Prop :=
  ¬(flagOn psr psrHI = true ∧ flagOn psr psrLO = true) ∧
    ¬(flagOn psr psrHI = true ∧ flagOn psr psrEQ = true) ∧
    ¬(flagOn psr psrLO = true ∧ flagOn psr psrEQ = true)

/-! ## Formats -/

/-- The last column of the format chart: an instruction's length by the first half-byte of its op code
(spec/30_encoding.md R112, R114). -/
def formatLength (n : BitVec 4) : Nat :=
  match n with
  | 0x0#4 => 6
  | 0x1#4 => 5
  | 0x2#4 => 5
  | 0x4#4 => 5
  | 0x8#4 => 5
  | 0x5#4 => 4
  | 0x6#4 => 4
  | 0x9#4 => 4
  | 0xA#4 => 4
  | 0x3#4 => 4
  | 0xC#4 => 4
  | _ => 3

/-! ## Fetch -/

/-- The `n` instruction bytes the IAR addresses (spec/10_state.md R25). -/
def State.codeBytes (s : State) (n : Nat) : List Byte :=
  (List.range n).map fun k => s.peek .i (s.iar + BitVec.ofNat 16 k)

/-- The `n` bytes at the IAR can be fetched. -/
abbrev State.CodeReadable (s : State) (n : Nat) : Prop :=
  ∀ k < n, s.canRead .i (s.iar + BitVec.ofNat 16 k) = true

/-- What instruction fetch changes before the meaning runs: the IAR has passed the `n` bytes, the op and Q
bytes stand in their registers, status byte 2 bit 0 follows the op byte, the ARR has read byte 4 of a direct `BC` that
branches (spec/42_logical.md R238 (b)); only LSR 8, LSR 9, the MSAR and the compare of the accesses made may
differ beside (spec/30_encoding.md R131). -/
def Fetched (s t : State) (n : Nat) (op q : Byte) : Prop :=
  t = { s with
    iar := s.iar + BitVec.ofNat 16 n
    arr := if op = 0xC0 ∧ Branches q s.psr then s.iar + 4 else s.arr
    opReg := op
    lsr11Op := op
    lsr11Q := q
    qBackup := q
    qReg := q
    nonexecutable := isNonexecutable op
    lsr8 := t.lsr8
    lsr9 := t.lsr9
    msar := t.msar
    compareHit := t.compareHit }

end Sys2Proof.Machine

namespace Sys2Proof

open Machine

/-- The forms that write an index register: `LA`, and `L` and `A` with Q-byte hex 01 or 02 (spec/10_state.md
R22). -/
def Form.loadsIndex : Form → Bool
  | .addr .la _ _ => true
  | .one .l q _ => q == 0x01 || q == 0x02
  | .one .a q _ => q == 0x01 || q == 0x02
  | _ => false

/-- The forms that write the ARR: a decimal instruction, `ITC`, a `BC` that branches, `L` and `A` with
Q-byte hex 08 (R23). -/
def Form.loadsArr (f : Form) (psr : Byte) : Bool :=
  match f with
  | .two .zaz _ _ _ => true
  | .two .az _ _ _ => true
  | .two .sz _ _ _ => true
  | .two .itc _ _ _ => true
  | .addr .bc q _ => condMet q psr
  | .one .l q _ => q == 0x08
  | .one .a q _ => q == 0x08
  | _ => false

/-- The forms of R28's list "Every instruction not in the table leaves the PSR unchanged". -/
def Form.leavesPsr : Form → Bool
  | .two .mvc _ _ _ => true
  | .two .mvx _ _ _ => true
  | .two .itc _ _ _ => true
  | .one .mvi _ _ => true
  | .one .sbn _ _ => true
  | .one .sbf _ _ => true
  | .one .st _ _ => true
  | .addr .la _ _ => true
  | .cmd .svc _ _ => true
  | .cmd .lpmr _ _ => true
  | .one .l q _ => q != 0x04
  | _ => false

/-- The forms that load or free the PSR as a whole: `L` and `A` with Q-byte hex 04 (R205, R166). -/
def Form.selectsPsr : Form → Bool
  | .one .l q _ => q == 0x04
  | .one .a q _ => q == 0x04
  | _ => false

/-- The forms that test the indicator of PSR bit `k` (IBM numbering): `BC` and `JC` with that Q-bit on (R235). -/
def Form.tests (f : Form) (k : Nat) : Bool :=
  match f with
  | .addr .bc q _ => ibmBit q k
  | .cmd .jc q _ => ibmBit q k
  | _ => false

/-- The forms that rewrite Binary overflow: `ALC` and `A` (spec/70_reset_and_hazards.md R328). -/
def Form.rewritesOverflow : Form → Bool
  | .two .alc _ _ _ => true
  | .one .a _ _ => true
  | _ => false

/-- `ED`, whose High, Low and Equal may be free (R194). -/
def Form.isEdit : Form → Bool
  | .two .ed _ _ _ => true
  | _ => false

end Sys2Proof
end

