-- ==== Sys2Proof/Certificates/Slice0/Obligations.lean ====
section
/-! DEFINITION. The statements for the provers. Those about an instruction speak of it through its form, so
each covers every addressing: the docstring names the constructors of `Instr` that are meant. `exec` runs on
the state after the instruction's fetch, where the IAR holds the next sequential address
(spec/30_encoding.md R131). -/

open Sys2Proof Sys2Proof.Machine

/-! ## Decoding and encoding -/

/-- Words written out from the matrix of R119 and the layouts of R115 decode to the instructions they stand for. -/
def Obligations.DecodeReadsWrittenWords : Prop :=
  decode [0x04, 0x21, 0x30, 0x02, 0x40, 0x01] = .ok (.zazX00 0x21 0x3002 0x4001) [] ∧
    decode [0x8E, 0x01, 0x10, 0x20, 0x03] = .ok (.alcX20 0x01 0x10 0x2003) [] ∧
    decode [0x6C, 0x02, 0x11, 0x22] = .ok (.mvcX12 0x02 0x11 0x22) [] ∧
    decode [0x3C, 0x40, 0x01, 0x00] = .ok (.mviY0 0x40 0x0100) [] ∧
    decode [0xB6, 0x01, 0x07] = .ok (.aY2 0x01 0x07) [] ∧
    decode [0xC0, 0x81, 0x02, 0x00] = .ok (.bcZ0 0x81 0x0200) [] ∧
    decode [0xD2, 0x02, 0x10] = .ok (.laZ1 0x02 0x10) [] ∧
    decode [0xF6, 0x00, 0x0E] = .ok (.lpmr 0x00 0x0E) []

/-- Decoding the encoding of any instruction gives it back, with the bytes after it untouched: no bit of a
field is dropped (R111, R115, R117). -/
def Obligations.DecodeOfEncode : Prop :=
  ∀ (i : Instr) (rest : List Byte), decode (encode i ++ rest) = .ok i rest

/-- What decodes is the encoding of what it decodes to: each byte string has one reading (R111, R115, R117). -/
def Obligations.EncodeOfDecode : Prop :=
  ∀ (bytes rest : List Byte) (i : Instr), decode bytes = .ok i rest → bytes = encode i ++ rest

/-- Six bytes decode exactly when the first is one of the 126 op codes of R119, and otherwise are rejected by
the name of the undefined op code (R128): nine two-address, three type Y and three type Z high half-bytes, and
hex F. -/
def Obligations.DecodeRejectsExactlyUndefinedOps : Prop :=
  ∀ op b1 b2 b3 b4 b5 : Byte,
    if ((op >>> 4).toNat ∈ [0x0, 0x1, 0x2, 0x4, 0x5, 0x6, 0x8, 0x9, 0xA] ∧
          (op &&& 0x0F).toNat ∈ [0x4, 0x6, 0x7, 0x8, 0xA, 0xB, 0xC, 0xD, 0xE, 0xF]) ∨
        ((op >>> 4).toNat ∈ [0x3, 0x7, 0xB] ∧
          (op &&& 0x0F).toNat ∈ [0x4, 0x5, 0x6, 0x8, 0x9, 0xA, 0xB, 0xC, 0xD]) ∨
        ((op >>> 4).toNat ∈ [0xC, 0xD, 0xE] ∧ (op &&& 0x0F).toNat ∈ [0x0, 0x2]) ∨
        op.toNat ∈ [0xF2, 0xF4, 0xF6]
    then ∃ i rest, decode [op, b1, b2, b3, b4, b5] = .ok i rest
    else decode [op, b1, b2, b3, b4, b5] = .bad (.undefinedOp op)

/-- An instruction's length is two bytes and those of its addresses, or three for a command, and it is a
function of the first half-byte alone: 3, 4, 5 or 6 (R112, R114). -/
def Obligations.InstructionLengthByFirstHalfByte : Prop :=
  ∀ i : Instr,
    (encode i).length = formatLength (zone i.form.header.opByte) ∧
      (encode i).length =
        (match i.form with
          | .two _ _ o1 o2 => 2 + o1.bytes.length + o2.bytes.length
          | .one _ _ o => 2 + o.bytes.length
          | .addr _ _ o => 2 + o.bytes.length
          | .cmd _ _ _ => 3) ∧
      3 ≤ (encode i).length ∧ (encode i).length ≤ 6

/-! ## Steps -/

/-- A step runs the decoded instruction: where the bytes at the IAR can be fetched and decode to `i`, the step
is `exec i` on the state after the fetch, ended by `finish`. `s` has its turn when no action of the control
processor is pending or it waits for the stop; with one turn granted, that grant is used up (R25, R131; when
the control processor acts is the model's choice, log 7 and 32). -/
def Obligations.StepRunsDecodedInstruction : Prop :=
  ∀ (s : State) (n : Nat) (i : Instr),
    s.clockRun = true → s.CodeReadable n → decode (s.codeBytes n) = .ok i [] →
    ((s.host = [] ∨ ∃ rest, s.host = .awaitStop :: rest) →
        ∃ t, Fetched s.clearCompare t n i.form.header.opByte i.form.qByte ∧ step s = finish (exec i t)) ∧
      ∀ rest, s.host = .letInstruction :: rest →
        ∃ t, Fetched { s.clearCompare with host := rest } t n i.form.header.opByte i.form.qByte ∧
          step s = finish (exec i t)

/-- What the end of an instruction adds: the scratch registers become free values; an instruction that stopped
stays stopped; else an access that met the address compare stops the MSP now (R299); else in step mode the
clock stops (the spec's "presumably", log 29); no visible register and no byte of storage changes. -/
def Obligations.EndOfInstructionAdds : Prop :=
  ∀ s : State, ∃ t, finish (.next s) = .next t ∧ SameVisible s t ∧ SameControl s t ∧ SameStorage s t ∧
    (s.stopped.isSome = true → NoStop s t) ∧
    (s.stopped = none → s.compareHit = true → StoppedOn s t .addressCompare) ∧
    (s.stopped = none → s.compareHit = false → s.stepMode = true →
      t.stopped = none ∧ t.clockRun = false ∧ t.level5 = s.level5 ∧ t.sb3 = s.sb3 ∧
        t.nonexecutable = s.nonexecutable) ∧
    (s.stopped = none → s.compareHit = false → s.stepMode = false → NoStop s t)

/-- An op code that is none of the 126 stops the MSP once the op and Q bytes are fetched, and changes no visible
register but the IAR, whose value is free (R128, R289; decision D13, log 10). -/
def Obligations.StepStopsAtUndefinedOp : Prop :=
  ∀ s : State, s.host = [] → s.clockRun = true → s.CodeReadable 2 →
    headerOf (s.peek .i s.iar) = none →
    ∃ t, step s = .next t ∧ t.stopped = some (.nonexecutableOp (s.peek .i s.iar)) ∧ t.clockRun = false ∧
      t.level5 = true ∧ t.nonexecutable = true ∧ t.sb3 = s.sb3 ∧
      SameVisible { s with iar := t.iar } t ∧ SameControl s t ∧ SameStorage s t

/-- A fault on instruction byte `k` leaves the IAR at that byte, and the instruction does not execute (R131,
R292). The last byte of a direct `BC` that does not branch is not fetched; that of one that branches is read
through the ARR, which the fault leaves at that byte (R238). That nothing else a program can see is written yet,
the index register of `LA` and the ARR of a decimal instruction among it, is log 18. -/
def Obligations.FetchFaultLeavesIarAtFailingByte : Prop :=
  ∀ (s : State) (k : Nat) (e : StopEvent),
    s.host = [] → s.clockRun = true → s.CodeReadable k →
    s.readCheck .i (s.iar + BitVec.ofNat 16 k) = .error e →
    (k < 2 ∨ (headerOf (s.peek .i s.iar)).isSome = true ∧ k < formatLength (zone (s.peek .i s.iar)) ∧
      ¬(k = 3 ∧ s.peek .i s.iar = 0xC0 ∧ ¬Branches (s.peek .i (s.iar + 1)) s.psr)) →
    ∃ t, step s = .next t ∧ t.stopped = some e ∧ t.clockRun = false ∧ t.level5 = true ∧
      t.sb3 = s.sb3 ||| e.sb3Bits ∧
      SameVisible
        { s with
          iar := s.iar + BitVec.ofNat 16 k
          arr := if k = 3 ∧ s.peek .i s.iar = 0xC0 then s.iar + 3 else s.arr } t ∧
      SameControl s t ∧ SameStorage s t

/-- A direct `BC` that does not branch never reads its fourth byte: it goes on at the next instruction even where
that byte cannot be read (R238; log 17), with the ARR as it was (decision D2, log 21). By the model's choice LSR 15
does not follow the PSR (log 68). -/
def Obligations.UntakenDirectBranchSkipsItsLastByte : Prop :=
  ∀ s : State, s.host = [] → s.clockRun = true → s.stepMode = false → s.ceAddressStop = false →
    s.stopped = none → s.CodeReadable 3 → s.peek .i s.iar = 0xC0 →
    ¬Branches (s.peek .i (s.iar + 1)) s.psr →
    ∃ t, step s = .next t ∧ t.stopped = none ∧ t.clockRun = true ∧
      SameVisible { s with iar := s.iar + 4, psr := s.psr &&& ~~~(s.peek .i (s.iar + 1) &&& 0x18) } t ∧
      SameControl s t ∧ SameStorage s t

/-- With the clock stopped and no action of the control processor pending nothing can happen: the model stops
with the fault `clockStopped` (R281, R298; the model's reading of decision D17, log 6). -/
def Obligations.StepStuckWhenClockStopped : Prop :=
  ∀ s : State, s.host = [] → s.clockRun = false → step s = .fault .clockStopped

/-! ## The control processor -/

/-- A system reset leaves the PSR at hex 01, Equal on and the rest off (R57); the model's reset state has that
PSR too. The clock is stopped, as R58 presumes; that it leaves everything else as it was is the model's choice
(log 60, 61). -/
def Obligations.SystemResetSetsEqual : Prop :=
  State.reset.psr = 0x01 ∧
    ∀ (s : State) (rest : List HostAction), s.host = .systemReset :: rest →
      step s = .next { s with psr := 0x01, clockRun := false, host := rest }

/-- Loading status byte 1: bit 0 the step mode latch, bit 1 the clock run latch, bit 2 resets the checks, bit 7
the carry trigger; bits 3 to 6 do nothing (R47). Which checks bit 2 resets is the model's choice (log 65). -/
def Obligations.StatusByte1Loads : Prop :=
  ∀ (s : State) (b : Byte) (rest : List HostAction), s.host = .loadStatusByte1 b :: rest →
    ∃ t, step s = .next t ∧ SameVisible s t ∧ SameStorage s t ∧ t.host = rest ∧
      t.stepMode = decide (b &&& 0x80 = 0x80) ∧ t.clockRun = decide (b &&& 0x40 = 0x40) ∧
      t.carry = decide (b &&& 0x01 = 0x01) ∧ t.sb3 = s.sb3 ∧ t.level5 = s.level5 ∧
      t.nonexecutable = s.nonexecutable ∧ t.firstCycle = s.firstCycle ∧ t.recomplement = s.recomplement ∧
      (if b &&& 0x20 = 0x20 then
        t.controlGateCheck = false ∧ t.lsrGateCheck = false ∧ t.storageGateCheck = false ∧
          t.addressCheck = false
      else
        t.controlGateCheck = s.controlGateCheck ∧ t.lsrGateCheck = s.lsrGateCheck ∧
          t.storageGateCheck = s.storageGateCheck ∧ t.addressCheck = s.addressCheck)

/-- What the control processor loads it senses, and nothing else changes but the MSAR of a load by WMPR, whose
value is free (log 66): a local storage register, an address translation register, the PMR (bits 1-3 held at 0,
log 19), the PSR (the six bits as they are, log 56; LSR 15 apart from it, log 61) (R20, R26, R40, R41, R297). -/
def Obligations.ControlProcessorLoadsRegisters : Prop :=
  ∀ (s : State) (rest : List HostAction),
    (∀ n v, s.host = .loadLsr n v :: rest →
      ∃ t, step s = .next t ∧ t.lsr n = v ∧ (∀ m, m ≠ n → t.lsr m = s.lsr m) ∧
        t = { s with
          lsrReserved := t.lsrReserved, lsr8 := t.lsr8, lsr9 := t.lsr9, iar := t.iar, lsr11Op := t.lsr11Op
          lsr11Q := t.lsr11Q, xr1 := t.xr1, xr2 := t.xr2, arr := t.arr, lcrr := t.lcrr, psrLsr := t.psrLsr
          msar := t.msar, freeCount := s.freeCount + 1, host := rest }) ∧
    (∀ n b, s.host = .loadAtr n b :: rest →
      ∃ t, step s = .next t ∧ t.atr.get n = b ∧ (∀ m, m ≠ n → t.atr.get m = s.atr.get m) ∧
        t = { s with atr := t.atr, host := rest }) ∧
    (∀ b, s.host = .loadPmr b :: rest →
      ∃ m, step s =
        .next { s with pmr := b &&& 0x8F, msar := m, freeCount := s.freeCount + 1, host := rest }) ∧
    (∀ b, s.host = .loadPsr b :: rest →
      ∃ m, step s =
        .next { s with psr := b &&& 0x3F, msar := m, freeCount := s.freeCount + 1, host := rest })

/-- The other registers the control processor loads hold what it loads, all bits of them, and nothing else
changes: the CMR, BMR and CCR (their unused bits too, log 63), the ACR. Resetting status byte 3, taking the level 5
request, setting the processor error byte (log 30), the CE address stop switch (R299) and sensing a register (which
frees the MSAR, log 66) change what they name. Reading main storage goes through the CMR as a store does, and leaves
its address in the MSAR and, where it fails, the check in bits 6 and 7 of the processor error byte (log 30; hex 40 to
FE protect a page by decision D21, log 44; the address compare does not look, log 64). A hardware check from outside
(log 31) stops the MSP with its bit of status byte 2 on (their places by decision D26, log 27), an MSAR parity check
with bits 6 and 7 of status byte 3 on (R37, R42-R45, R48, R49, R88, R294, R297, R300, R303). -/
def Obligations.ControlProcessorLoadsControlRegisters : Prop :=
  ∀ (s : State) (rest : List HostAction),
    (∀ b, s.host = .loadCmr b :: rest → step s = .next { s with cmr := b, host := rest }) ∧
    (∀ b, s.host = .loadBmr b :: rest → step s = .next { s with bmr := b, host := rest }) ∧
    (∀ b, s.host = .loadCcr b :: rest → step s = .next { s with ccr := b, host := rest }) ∧
    (∀ a, s.host = .loadAcr a :: rest → step s = .next { s with acr := a, host := rest }) ∧
    (s.host = .resetStatusByte3 :: rest →
      ∃ m, step s = .next { s with sb3 := 0, msar := m, freeCount := s.freeCount + 1, host := rest }) ∧
    (s.host = .acceptLevel5 :: rest → step s = .next { s with level5 := false, host := rest }) ∧
    (s.host = .senseRegister :: rest →
      ∃ m, step s = .next { s with msar := m, freeCount := s.freeCount + 1, host := rest }) ∧
    (∀ b, s.host = .setProcessorError b :: rest → step s = .next { s with processorError := b, host := rest }) ∧
    (∀ a, s.host = .readStorage a :: rest →
      ∃ t, step s = .next t ∧ t = { s with msar := a, processorError := t.processorError, host := rest } ∧
        t.processorError &&& 0xFC = s.processorError &&& 0xFC ∧
        (s.cmr &&& 0x01 = 0 →
          t.processorError = if a.toNat < s.cfg.size.bytes then s.processorError
            else (s.processorError &&& 0xFC) ||| 0x02) ∧
        (s.cmr &&& 0x01 = 1 → ∀ n : Fin 64,
          n.val = a.toNat / 2048 + (if s.cmr &&& 0x02 = 0x02 then 32 else 0) →
          let page := (s.atr.get n).toNat
          t.processorError =
            if 64 ≤ page then (s.processorError &&& 0xFC) ||| 0x01
            else if page * 2048 + a.toNat % 2048 < s.cfg.size.bytes then s.processorError
            else (s.processorError &&& 0xFC) ||| 0x02)) ∧
    (∀ on, s.host = .setAddressStop on :: rest → step s = .next { s with ceAddressStop := on, host := rest }) ∧
    (∀ k, s.host = .injectCheck k :: rest →
      ∃ t, step s = .next t ∧ StoppedOn s t (.hardwareCheck k) ∧ SameVisible s t ∧ SameStorage s t ∧
        t.host = rest ∧
        t.statusByte2 = s.statusByte2 |||
          (match k with
            | .controlGate => 0x40
            | .lsrGate => 0x20
            | .storageGate => 0x10
            | .address => 0x01
            | .msarParity => 0x00) ∧
        t.sb3 = if k = .msarParity then s.sb3 ||| 0x03 else s.sb3)

/-- A store by the control processor goes through the CMR, not the PMR: untranslated to the real address, or
through the task or the I/O registers; its address enters the MSAR; a protected page or an address outside storage
stores nothing and has bits 6 and 7 of the processor error byte show that check (R37, R42, R88, R300; log 30; hex 40
to FE protect a page like hex FF by decision D21, log 44); and nothing else changes (log 64). -/
def Obligations.ControlProcessorStoresUnderCmr : Prop :=
  ∀ (s : State) (a : Word) (b : Byte) (rest : List HostAction), s.host = .writeStorage a b :: rest →
    Memory.wf s.mem = true →
    ∃ t, step s = .next t ∧
      t = { s with mem := t.mem, msar := a, processorError := t.processorError, host := rest } ∧
      (s.cmr &&& 0x01 = 0 →
        if a.toNat < s.cfg.size.bytes then
          StorageWith s t (a.setWidth 17) b ∧ t.processorError = s.processorError
        else SameStorage s t ∧ t.processorError = (s.processorError &&& 0xFC) ||| 0x02) ∧
      (s.cmr &&& 0x01 = 1 → ∀ n : Fin 64,
        n.val = a.toNat / 2048 + (if s.cmr &&& 0x02 = 0x02 then 32 else 0) →
        let page := (s.atr.get n).toNat
        if 64 ≤ page then SameStorage s t ∧ t.processorError = (s.processorError &&& 0xFC) ||| 0x01
        else if page * 2048 + a.toNat % 2048 < s.cfg.size.bytes then
          StorageWith s t (BitVec.ofNat 17 (page * 2048 + a.toNat % 2048)) b ∧
            t.processorError = s.processorError
        else SameStorage s t ∧ t.processorError = (s.processorError &&& 0xFC) ||| 0x02)

/-- How a stop reports its cause: a missing address sets status byte 3 bit 6, a storage exception bit 7, an MSAR
parity check from outside both, `SVC` and an undefined op code set status byte 2 bit 0, an address compare nothing;
the clock stops, level 5 is requested, and no visible register and no byte of storage changes (R281, R283). -/
def Obligations.StopRecordsCauseInStatusBytes : Prop :=
  ∀ (s : State) (e : StopEvent),
    (s.stop e).clockRun = false ∧ (s.stop e).level5 = true ∧ (s.stop e).stopped = some e ∧
      SameVisible s (s.stop e) ∧ SameStorage s (s.stop e) ∧
      (s.stop e).sb3 =
        (match e with
          | .invalidAddress _ => s.sb3 ||| 0x02
          | .protect _ => s.sb3 ||| 0x01
          | .pmrAlter => s.sb3 ||| 0x01
          | .hardwareCheck .msarParity => s.sb3 ||| 0x03
          | _ => s.sb3) ∧
      (s.stop e).statusByte2 &&& 0x80 =
        (match e with
          | .nonexecutableOp _ => 0x80
          | .supervisorCall _ _ => 0x80
          | _ => s.statusByte2 &&& 0x80) ∧
      (s.stop e).statusByte2 &&& 0x7F = s.statusByte2 &&& 0x7F

/-! ## Storage accesses -/

/-- The real address of an access: with the PMR bit of its kind on, the six low-order bits of the task register
its five high-order bits select, times 2048, plus the address inside the 2K page; with it off, the logical
address itself (R80, R81). With hex 2F in task register 4, the logical addresses 2000 to 27FF are the real addresses
17800 to 17FFF, so that 27FF is 17FFF (R82). -/
def Obligations.TranslatedAddressFormsPage : Prop :=
  (∀ (s : State) (k : Kind) (la : Word) (ra : RealAddr), s.realOf k la = .ok ra →
    if s.pmr &&& translateMask k ≠ 0 then
      ∃ n : Fin 64, n.val = la.toNat / 2048 ∧
        ra.toNat = (s.atr.get n).toNat % 64 * 2048 + la.toNat % 2048
    else ra.toNat = la.toNat) ∧
    ∀ (s : State) (k : Kind) (la : Word), s.pmr &&& translateMask k ≠ 0 → s.atr.get 4 = 0x2F →
      0x17FFF < s.cfg.size.bytes → 0x2000 ≤ la.toNat → la.toNat ≤ 0x27FF →
        s.realOf k la = .ok (BitVec.ofNat 17 (0x17800 + (la.toNat - 0x2000)))

/-- Which accesses are made, and which event each of the others raises: a protected page first, then an address
outside storage, then for a write by a nonprivileged task the first 8K; a refused write changes no byte
(R80, R84-R87; decisions D11, D21, D22). -/
def Obligations.AccessChecksDecideEachAccess : Prop :=
  ∀ (s : State) (k : Kind) (la : Word) (n : Fin 64) (b : Byte), n.val = la.toNat / 2048 →
    let translated := s.pmr &&& translateMask k ≠ 0
    let ra := if translated then (s.atr.get n).toNat % 64 * 2048 + la.toNat % 2048 else la.toNat
    (if translated ∧ 64 ≤ (s.atr.get n).toNat then
      s.readCheck k la = .error (.protect la) ∧ s.writeCheck k la = .error (.protect la)
    else if s.cfg.size.bytes ≤ ra then
      s.readCheck k la = .error (.invalidAddress la) ∧ s.writeCheck k la = .error (.invalidAddress la)
    else if s.pmr &&& 0x01 = 1 ∧ ra < 0x2000 then
      s.writeCheck k la = .error (.protect la) ∧
        s.readCheck k la =
          (if s.cfg.lowReadFaults then .error (.protect la) else .ok (BitVec.ofNat 17 ra))
    else s.readCheck k la = .ok (BitVec.ofNat 17 ra) ∧ s.writeCheck k la = .ok (BitVec.ofNat 17 ra)) ∧
    ∀ e, s.writeCheck k la = .error e → (s.writeAt k la b).state.mem = s.mem

/-- The card switch of BMR bit 6 changes which cell a real address is, between the two lowest 16K blocks, and
stays invisible: a byte stored at a real address is the byte read there, and every other one is as before
(R43, R89). -/
def Obligations.CardSwitchIsTransparent : Prop :=
  ∀ s : State, Memory.wf s.mem = true →
    (∀ (ra : RealAddr) (b : Byte), StorageWith s (s.putByte ra b) ra b) ∧
      ∀ ra : RealAddr,
        s.cell ra =
          (if s.bmr &&& 0x02 = 0x02 then
            if ra.toNat < 0x4000 then ra.toNat + 0x4000
            else if ra.toNat < 0x8000 then ra.toNat - 0x4000
            else ra.toNat
          else ra.toNat)

/-! ## The invariant and what only some instructions change -/

/-- The state after reset meets the invariant. -/
def Obligations.ResetMeetsInvariant : Prop := MachineInv State.reset

/-- Every step keeps the invariant: storage canonical and inside the installed size (R52), PSR bits 0-1 at 0
(R26), PMR bits 1-3 at 0 (R40; decision D31), a stopped machine's clock stopped (R281). -/
def Obligations.StepKeepsInvariant : Prop :=
  ∀ s t : State, MachineInv s → step s = .next t → MachineInv t

/-- Every instruction the spec gives a behaviour answers a next state in every state, that of its completion or
of its stop on an event (log 5); `ST`, `L` and `A` with a
reserved register-select Q-byte are refused by name (R129, decision D5). -/
def Obligations.ExecAnswersUnlessReservedSelect : Prop :=
  ∀ (i : Instr) (s : State),
    (WellFormed i → ∃ t, exec i s = .next t) ∧
      (¬WellFormed i → exec i s = .refused (.undefinedQ i.form.qByte) ∧
        i.form.qByte.toNat ∉ [0x00, 0x01, 0x02, 0x04, 0x08, 0x10, 0x20])

/-- Every byte of storage stays but those of the instruction's own operand 1 field (`ITC`: from its left end; `ST`:
two bytes) where the checks allow the write, completed or stopped; the forms that store nothing leave all of storage
as it was (R80, R84-R86, R115). -/
def Obligations.StoresOnlyWhereOperand1MayWrite : Prop :=
  ∀ (i : Instr) (s t : State), Memory.wf s.mem = true → exec i s = .next t →
    ∀ ra, (∀ la ∈ s.storedAt i.form, s.writeCheck .op1 la ≠ .ok ra) → t.byteAt ra = s.byteAt ra

/-- While the MSP runs, a nonprivileged task cannot change the PMR or any byte of the first 8K (R40, R85, R264;
the first 8K by decision D11): a whole step, fetch to end, of any bytes. -/
def Obligations.NonprivilegedKeepsPmrAndFirst8K : Prop :=
  ∀ s t : State, MachineInv s → s.pmr &&& 0x01 = 1 → (s.host = [] ∨ ∃ rest, s.host = .awaitStop :: rest) →
    step s = .next t →
    t.pmr = s.pmr ∧ ∀ ra : RealAddr, ra.toNat < 0x2000 → t.byteAt ra = s.byteAt ra

/-- No instruction changes a register of the control processor's side, and the PMR changes only by an `LPMR`
in privileged mode, to the R-byte with bits 1 to 3 at 0 (R40-R45, R263; those bits by decision D31, log 19). -/
def Obligations.ControlSideUntouched : Prop :=
  ∀ (i : Instr) (s t : State), exec i s = .next t →
    SameControl s t ∧ (t.pmr = s.pmr ∨ s.pmr &&& 0x01 = 0 ∧ ∃ q r, i = .lpmr q r ∧ t.pmr = r &&& 0x8F)

/-- "No other instruction reads or writes them": only `LA`, and `L` and `A` that select one, change an index
register (R22). -/
def Obligations.IndexRegistersOnlyBy : Prop :=
  ∀ (i : Instr) (s t : State), exec i s = .next t → i.form.loadsIndex = false →
    t.xr1 = s.xr1 ∧ t.xr2 = s.xr2

/-- The ARR is written by the decimal instructions, `ITC`, a `BC` that branches, and `L` and `A` with Q-byte
hex 08, and by nothing else (R23; an untaken `BC` by decision D2). -/
def Obligations.ArrOnlyBy : Prop :=
  ∀ (i : Instr) (s t : State), exec i s = .next t → i.form.loadsArr s.psr = false → t.arr = s.arr

/-- LSR 15 is written by `SVC` (the LCRR) and by `L` and `A` with the PSR selected, and by nothing else (R29). By
the model's choice LSR 15 does not follow the PSR (log 68). -/
def Obligations.LcrrOnlyBy : Prop :=
  ∀ (i : Instr) (s t : State), exec i s = .next t → i.form.selectsPsr = false →
    t.psrLsr = s.psrLsr ∧ (t.lcrr = s.lcrr ∨ ∃ q r, i = .svc q r ∧ t.lcrr = r)

/-- "Every instruction not in the table leaves the PSR unchanged": `MVC`, `MVX`, `ITC`, `MVI`, `SBN`, `SBF`,
`ST`, `LA`, `SVC`, `LPMR`, and `L` with another register selected (R28). -/
def Obligations.PsrUnchangedByListed : Prop :=
  ∀ (i : Instr) (s t : State), exec i s = .next t → i.form.leavesPsr = true → t.psr = s.psr

/-- Decimal overflow and Test false stay on until a `BC` or `JC` tests them or the PSR is loaded, and only the
decimal add and subtract, respectively the two tests, turn them on (R234, R328). -/
def Obligations.StickyIndicatorsStay : Prop :=
  ∀ (i : Instr) (s t : State), exec i s = .next t → i.form.selectsPsr = false →
    (flagOn s.psr psrDO = true → i.form.tests 4 = false → flagOn t.psr psrDO = true) ∧
      (flagOn s.psr psrTF = true → i.form.tests 3 = false → flagOn t.psr psrTF = true) ∧
      (flagOn s.psr psrDO = false → flagOn t.psr psrDO = true →
        ∃ q o1 o2, i.form = .two .az q o1 o2 ∨ i.form = .two .sz q o1 o2) ∧
      (flagOn s.psr psrTF = false → flagOn t.psr psrTF = true →
        ∃ q o, i.form = .one .tbn q o ∨ i.form = .one .tbf q o)

/-- "Binary overflow is rewritten by every `ALC` and `A`, and otherwise only by `L` of the PSR" (R328). -/
def Obligations.BinaryOverflowOnlyBy : Prop :=
  ∀ (i : Instr) (s t : State), exec i s = .next t → i.form.selectsPsr = false →
    i.form.rewritesOverflow = false → flagOn t.psr psrBO = flagOn s.psr psrBO

/-- High, Low and Equal stay mutually exclusive (R27), but for the two cases the spec leaves unspecified: `A`
with the PSR selected (R166) and an `ED` that meets none of R194's three conditions, Equal on before, the rightmost
byte of operand 1 hex 20, a nonzero digit moved (their reading is decision D10, log 35). -/
def Obligations.OneConditionKept : Prop :=
  ∀ (i : Instr) (s t : State), exec i s = .next t → OneCondition s.psr →
    ¬(∃ o, i.form = .one .a 0x04 o) → Memory.wf s.mem = true →
    (∀ q o1 o2, i.form = .two .ed q o1 o2 →
      flagOn s.psr psrEQ = true ∨ s.peek .op1 (s.address o1) = 0x20 ∨
        editsNonzero s (s.address o1) (s.address o2) (q.toNat + 1) s.byteAt = true) →
    OneCondition t.psr

/-! ## One-byte immediate and mask instructions -/

/-- `MVI` (`mviY0`, `mviY1`, `mviY2`): the Q-byte is stored at A1, operand 1 is not read, and nothing else changes;
an address that may not be written stops it on the event of R80 with nothing done (R198). By the model's choice
addresses leave the carry trigger alone (log 67). -/
def Obligations.MviStoresImmediate : Prop :=
  ∀ (q : Byte) (o : Operand) (s : State), Memory.wf s.mem = true →
    (encode (Form.one .mvi q o).instr).head? = some (byAddressing o 0x3C 0x7C 0xBC) ∧
      (s.canWrite .op1 (s.address o) = true →
        ∃ t, exec (Form.one .mvi q o).instr s = .next t ∧ CompletesOne s t q ∧ SameVisible s t ∧
          StorageWith s t (s.target .op1 (s.address o)) q) ∧
      (∀ e, s.writeCheck .op1 (s.address o) = .error e →
        ∃ t, exec (Form.one .mvi q o).instr s = .next t ∧ StopsUnchanged s t e)

/-- `SBN` (`sbnY0`, `sbnY1`, `sbnY2`) and `SBF` (`sbfY0`, `sbfY1`, `sbfY2`): the operand 1 byte gets the mask bits
set, respectively reset, and nothing else changes; an address that may not be written stops them, whatever the mask
(R199, R200, R201). By the model's choice addresses leave the carry trigger alone (log 67). -/
def Obligations.SbnSbfModifyMaskedBits : Prop :=
  ∀ (q : Byte) (o : Operand) (s : State), Memory.wf s.mem = true →
    (encode (Form.one .sbn q o).instr).head? = some (byAddressing o 0x3A 0x7A 0xBA) ∧
      (encode (Form.one .sbf q o).instr).head? = some (byAddressing o 0x3B 0x7B 0xBB) ∧
      (s.canWrite .op1 (s.address o) = true →
        (∃ t, exec (Form.one .sbn q o).instr s = .next t ∧ CompletesOne s t q ∧ SameVisible s t ∧
          StorageWith s t (s.target .op1 (s.address o)) (s.peek .op1 (s.address o) ||| q)) ∧
        ∃ t, exec (Form.one .sbf q o).instr s = .next t ∧ CompletesOne s t q ∧ SameVisible s t ∧
          StorageWith s t (s.target .op1 (s.address o)) (s.peek .op1 (s.address o) &&& ~~~q)) ∧
      (∀ e, s.writeCheck .op1 (s.address o) = .error e →
        (∃ t, exec (Form.one .sbn q o).instr s = .next t ∧ StopsUnchanged s t e) ∧
          ∃ t, exec (Form.one .sbf q o).instr s = .next t ∧ StopsUnchanged s t e)

/-- `CLI` (`cliY0`, `cliY1`, `cliY2`): the unsigned comparison of operand 1 with the Q-byte sets exactly one of
Equal, Low, High and nothing else changes, the carry trigger neither (log 62); an address that may not be read stops
it (R230). By the model's choice addresses leave the carry trigger alone (log 67) and LSR 15 does not follow the PSR
(log 68). -/
def Obligations.CliCompares : Prop :=
  ∀ (q : Byte) (o : Operand) (s : State),
    (encode (Form.one .cli q o).instr).head? = some (byAddressing o 0x3D 0x7D 0xBD) ∧
      (s.canRead .op1 (s.address o) = true →
        ∃ t, exec (Form.one .cli q o).instr s = .next t ∧ CompletesOne s t q ∧ SameStorage s t ∧
          SameVisible
            { s with psr := (withCondition s.psr
                (if s.peek .op1 (s.address o) = q then 0x01
                else if (s.peek .op1 (s.address o)).toNat < q.toNat then 0x02 else 0x04)) } t) ∧
      (∀ e, s.readCheck .op1 (s.address o) = .error e →
        ∃ t, exec (Form.one .cli q o).instr s = .next t ∧ StopsUnchanged s t e)

/-- `TBN` (`tbnY0`, `tbnY1`, `tbnY2`) turns Test false on when some tested bit is 0, `TBF` (`tbfY0`, `tbfY1`,
`tbfY2`) when some tested bit is 1; neither turns it off, and nothing else changes; an address that may not be read
stops them (R232, R233). By the model's choice addresses leave the carry trigger alone (log 67) and LSR 15 does not
follow the PSR (log 68). -/
def Obligations.TbnTbfSetTestFalse : Prop :=
  ∀ (q : Byte) (o : Operand) (s : State),
    (encode (Form.one .tbn q o).instr).head? = some (byAddressing o 0x38 0x78 0xB8) ∧
      (encode (Form.one .tbf q o).instr).head? = some (byAddressing o 0x39 0x79 0xB9) ∧
      (s.canRead .op1 (s.address o) = true →
        (∃ t, exec (Form.one .tbn q o).instr s = .next t ∧ CompletesOne s t q ∧ SameStorage s t ∧
          SameVisible
            { s with psr := if s.peek .op1 (s.address o) &&& q = q then s.psr else s.psr ||| 0x10 } t) ∧
        ∃ t, exec (Form.one .tbf q o).instr s = .next t ∧ CompletesOne s t q ∧ SameStorage s t ∧
          SameVisible
            { s with psr := if s.peek .op1 (s.address o) &&& q = 0 then s.psr else s.psr ||| 0x10 } t) ∧
      (∀ e, s.readCheck .op1 (s.address o) = .error e →
        (∃ t, exec (Form.one .tbn q o).instr s = .next t ∧ StopsUnchanged s t e) ∧
          ∃ t, exec (Form.one .tbf q o).instr s = .next t ∧ StopsUnchanged s t e)

/-! ## Moves -/

/-- `MVX` (`mvxX00` to `mvxX22`): Q bit 7 selects the half of operand 2, Q bit 6 the half of operand 1 it goes to;
the other half and everything else are unchanged (R123, R190; Q bits 0-5 ignored by decision D7). If operand 2 cannot
be read, or then operand 1 cannot be used, it stops with nothing changed. By the model's
choice addresses leave the carry trigger alone (log 67). -/
def Obligations.MvxMovesHalf : Prop :=
  ∀ (q : Byte) (o1 o2 : Operand) (s : State), Memory.wf s.mem = true →
    (s.canRead .op2 (s.address o2) = true → s.canWrite .op1 (s.address o1) = true →
      ∃ t, exec (Form.two .mvx q o1 o2).instr s = .next t ∧ Completes s t q ∧ t.carry = s.carry ∧
        SameVisible s t ∧
        (let x := s.peek .op1 (s.address o1)
        let y := s.peek .op2 (s.address o2)
        let half := if q &&& 0x01 = 0x01 then y &&& 0x0F else y >>> 4
        StorageWith s t (s.target .op1 (s.address o1))
          (if q &&& 0x02 = 0x02 then (x &&& 0xF0) ||| half else (half <<< 4) ||| (x &&& 0x0F)))) ∧
      ∀ e, s.MoveFaults (s.address o1) (s.address o2) e →
        ∃ t, exec (Form.two .mvx q o1 o2).instr s = .next t ∧ StopsUnchanged s t e

/-- `MVC` (`mvcX00` to `mvcX22`): Q + 1 bytes are copied one at a time, right to left, each read before the next is
stored, whatever the overlap; nothing else changes (R121, R191). By the model's choice addresses leave the carry
trigger alone (log 67). -/
def Obligations.MvcCopiesByteSerially : Prop :=
  ∀ (q : Byte) (o1 o2 : Operand) (s : State), Memory.wf s.mem = true →
    s.FieldReadable .op2 (s.address o2) (q.toNat + 1) → s.FieldWritable (s.address o1) (q.toNat + 1) →
    ∃ t, exec (Form.two .mvc q o1 o2).instr s = .next t ∧ Completes s t q ∧ t.carry = s.carry ∧
      SameVisible s t ∧
      ∀ ra, t.byteAt ra = serialCopy s (s.address o1) (s.address o2) (q.toNat + 1) s.byteAt ra

/-- `MVC` (`mvcX00` to `mvcX22`), what that comes to: where no source byte is stored over before it is read,
the field is operand 2's; where operand 2 lies one byte to the right of operand 1 (and both are translated
alike), the byte at A2 fills the whole field; and only the operand 1 field changes (R191, R192). -/
def Obligations.MvcMovesOrDuplicates : Prop :=
  ∀ (q : Byte) (o1 o2 : Operand) (s : State), Memory.wf s.mem = true →
    s.FieldReadable .op2 (s.address o2) (q.toNat + 1) → s.FieldWritable (s.address o1) (q.toNat + 1) →
    ∃ t, exec (Form.two .mvc q o1 o2).instr s = .next t ∧ OnlyField s t (s.address o1) (q.toNat + 1) ∧
      (s.FieldDistinct (s.address o1) (q.toNat + 1) →
        s.SourceKept (s.address o1) (q.toNat + 1) (s.address o2) (q.toNat + 1) →
        ∀ i < q.toNat + 1, t.peek .op1 (s.address o1 - BitVec.ofNat 16 i) =
          s.peek .op2 (s.address o2 - BitVec.ofNat 16 i)) ∧
      (s.address o2 = s.address o1 + 1 → s.translates .op1 = s.translates .op2 →
        ∀ i < q.toNat + 1, t.peek .op1 (s.address o1 - BitVec.ofNat 16 i) = s.peek .op2 (s.address o2))

/-- `MVC` (`mvcX00` to `mvcX22`) that fails at byte `k`, reading or storing it: the `k` bytes before stay
stored (decision D15, log 42), no later byte changes, and LSR 8 and 9 hold the address being accessed, LSR 9 the
one after it when the store fails (R24, R96, R281, R292). -/
def Obligations.MvcKeepsCompletedBytesOnFault : Prop :=
  ∀ (q : Byte) (o1 o2 : Operand) (s : State) (k : Nat) (e : StopEvent), Memory.wf s.mem = true →
    k < q.toNat + 1 → s.FieldReadable .op2 (s.address o2) k → s.FieldWritable (s.address o1) k →
    (s.readCheck .op2 (s.address o2 - BitVec.ofNat 16 k) = .error e ∨
      s.canRead .op2 (s.address o2 - BitVec.ofNat 16 k) = true ∧
        s.writeCheck .op1 (s.address o1 - BitVec.ofNat 16 k) = .error e) →
    ∃ t, exec (Form.two .mvc q o1 o2).instr s = .next t ∧ StoppedOn s t e ∧ SameVisible s t ∧
      SameControl s t ∧ t.lsr8 = s.address o1 - BitVec.ofNat 16 k ∧
      (s.canRead .op2 (s.address o2 - BitVec.ofNat 16 k) = false →
        t.lsr9 = s.address o2 - BitVec.ofNat 16 k) ∧
      (s.canRead .op2 (s.address o2 - BitVec.ofNat 16 k) = true →
        t.lsr9 = s.address o2 - BitVec.ofNat 16 (k + 1)) ∧
      ∀ ra, t.byteAt ra = serialCopy s (s.address o1) (s.address o2) k s.byteAt ra

/-! ## Registers -/

/-- `ST` (`stY0`, `stY1`, `stY2`) with a register selected: the low byte at A1, then the high byte at A1 - 1, and
nothing else changes; for the PSR the bytes are hex 04 and the program status byte (decision D4), for the IAR those
of the next sequential address (decision D27). If only the second store fails, the first stays (decision D15, log
42) (R124, R202, R203). By the model's choice addresses leave the carry trigger alone (log 67). -/
def Obligations.StStoresSelectedRegister : Prop :=
  ∀ (q : Byte) (o : Operand) (s : State) (v : Word), Memory.wf s.mem = true → s.selected q = some v →
    (s.canWrite .op1 (s.address o) = true → s.canWrite .op1 (s.address o - 1) = true →
      ∃ t, exec (Form.one .st q o).instr s = .next t ∧ CompletesOne s t q ∧ SameVisible s t ∧
        ∀ ra, t.byteAt ra =
          if ra = s.target .op1 (s.address o - 1) then v.extractLsb' 8 8
          else if ra = s.target .op1 (s.address o) then v.extractLsb' 0 8 else s.byteAt ra) ∧
    (∀ e, s.canWrite .op1 (s.address o) = true → s.writeCheck .op1 (s.address o - 1) = .error e →
      ∃ t, exec (Form.one .st q o).instr s = .next t ∧ StoppedOn s t e ∧ SameVisible s t ∧
        SameControl s t ∧ StorageWith s t (s.target .op1 (s.address o)) (v.extractLsb' 0 8)) ∧
    (∀ e, s.writeCheck .op1 (s.address o) = .error e →
      ∃ t, exec (Form.one .st q o).instr s = .next t ∧ StopsUnchanged s t e)

/-- `L` (`lY0`, `lY1`, `lY2`): the selected local storage register gets the two bytes ending at A1; with the PSR
selected the right byte sets the six PSR bits, Equal over Low over High, and goes to LSR 15, whose high byte gets
the left byte (decision D25, log 47); nothing else changes. If only the second read fails, the low byte stays loaded
(decision D15, log 42); if the first fails, nothing is (R124, R205, R292). By the model's choice addresses leave the
carry trigger alone (log 67). -/
def Obligations.LLoadsSelectedRegister : Prop :=
  ∀ (q : Byte) (o : Operand) (s : State) (v : Word), s.selected q = some v →
    let low := s.peek .op1 (s.address o)
    let high := s.peek .op1 (s.address o - 1)
    let loaded := (low &&& 0x38) |||
      (if low &&& 0x01 = 0x01 then 0x01 else if low &&& 0x02 = 0x02 then 0x02 else low &&& 0x04)
    (s.canRead .op1 (s.address o) = true → s.canRead .op1 (s.address o - 1) = true →
      ∃ t, exec (Form.one .l q o).instr s = .next t ∧ CompletesOne s t q ∧ SameStorage s t ∧
        (∀ u, s.withSelected q (high ++ low) = some u → SameVisible u t) ∧
        (q = 0x04 → SameVisible { s with psr := loaded, psrLsr := low, lcrr := high } t)) ∧
    (∀ e, s.canRead .op1 (s.address o) = true → s.readCheck .op1 (s.address o - 1) = .error e →
      ∃ t, exec (Form.one .l q o).instr s = .next t ∧ StoppedOn s t e ∧ SameControl s t ∧ SameStorage s t ∧
        (∀ u, s.withSelected q (v.extractLsb' 8 8 ++ low) = some u → SameVisible u t) ∧
        (q = 0x04 → SameVisible { s with psr := loaded, psrLsr := low } t)) ∧
    (∀ e, s.readCheck .op1 (s.address o) = .error e →
      ∃ t, exec (Form.one .l q o).instr s = .next t ∧ StopsUnchanged s t e)

/-- `A` (`aY0`, `aY1`, `aY2`) with a local storage register selected: the register gets the 16-bit sum, High, Low,
Equal and Binary overflow follow the sum and its carry, and nothing else changes (R124, R165; Binary overflow by
decision D3, the IAR by decision D27). If only the second read fails, the sum of the low bytes stays in the low
byte, with its carry, and the PSR is as before (decision D15, log 42; log 53); if the first fails, nothing changes
(R292). By the model's choice LSR 15 does not follow the PSR (log 68). -/
def Obligations.AAddsToSelectedRegister : Prop :=
  ∀ (q : Byte) (o : Operand) (s : State) (v : Word), q ≠ 0x04 → s.selected q = some v →
    let low := s.peek .op1 (s.address o)
    let operand : Word := s.peek .op1 (s.address o - 1) ++ low
    (∀ u, s.canRead .op1 (s.address o) = true → s.canRead .op1 (s.address o - 1) = true →
      s.withSelected q (v + operand) = some u →
      ∃ t, exec (Form.one .a q o).instr s = .next t ∧ Completes s t q ∧ t.lsr9 = s.lsr9 ∧
        t.carry = decide (0x10000 ≤ v.toNat + operand.toNat) ∧ SameStorage s t ∧
        SameVisible
          { u with psr := withSum s.psr (v + operand == 0) (decide (0x10000 ≤ v.toNat + operand.toNat)) } t) ∧
    (∀ u e, s.canRead .op1 (s.address o) = true → s.readCheck .op1 (s.address o - 1) = .error e →
      s.withSelected q (v.extractLsb' 8 8 ++ (v.extractLsb' 0 8 + low)) = some u →
      ∃ t, exec (Form.one .a q o).instr s = .next t ∧ StoppedOn s t e ∧ SameControl s t ∧ SameStorage s t ∧
        t.carry = decide (0x100 ≤ (v.extractLsb' 0 8).toNat + low.toNat) ∧ SameVisible u t) ∧
    (∀ e, s.readCheck .op1 (s.address o) = .error e →
      ∃ t, exec (Form.one .a q o).instr s = .next t ∧ StopsUnchanged s t e)

/-- `A` (`aY0`, `aY1`, `aY2`) with the PSR selected goes on, and leaves the six PSR bits and LSR 15 at any
value; everything else is as before, but for the carry trigger of the addition (R166, decision D24; log 8). If only
the second read fails, the LCRR stays (decision D15, log 42); if the first fails, nothing changes (R292). -/
def Obligations.AWithPsrLeavesStatusFree : Prop :=
  ∀ (o : Operand) (s : State),
    (s.canRead .op1 (s.address o) = true → s.canRead .op1 (s.address o - 1) = true →
      ∃ t, exec (Form.one .a 0x04 o).instr s = .next t ∧ Completes s t 0x04 ∧ t.lsr9 = s.lsr9 ∧
        SameStorage s t ∧ t.psr &&& 0xC0 = 0 ∧
        SameVisible { s with psr := t.psr, psrLsr := t.psrLsr, lcrr := t.lcrr } t) ∧
    (∀ e, s.canRead .op1 (s.address o) = true → s.readCheck .op1 (s.address o - 1) = .error e →
      ∃ t, exec (Form.one .a 0x04 o).instr s = .next t ∧ StoppedOn s t e ∧ SameControl s t ∧
        SameStorage s t ∧ t.psr &&& 0xC0 = 0 ∧ SameVisible { s with psr := t.psr, psrLsr := t.psrLsr } t) ∧
    (∀ e, s.readCheck .op1 (s.address o) = .error e →
      ∃ t, exec (Form.one .a 0x04 o).instr s = .next t ∧ StopsUnchanged s t e)

/-- `ST`, `L` and `A` (`stY0`, `stY1`, `stY2`, `lY0`, `lY1`, `lY2`, `aY0`, `aY1`, `aY2`) with Q-byte hex 00 are
ignored: no register and no byte of storage changes, whatever the address (R124, R129; decision D6). By the model's
choice addresses leave the carry trigger alone (log 67). -/
def Obligations.SelectNoneIsIgnored : Prop :=
  ∀ (op : OneOp) (o : Operand) (s : State), op = .st ∨ op = .l ∨ op = .a →
    ∃ t, exec (Form.one op 0x00 o).instr s = .next t ∧ CompletesOne s t 0x00 ∧ SameVisible s t ∧
      SameStorage s t

/-- `LA` (`laZ0`, `laZ1`, `laZ2`): the effective address itself goes to XR1 when Q bit 7 is on, else to XR2, and
nothing else changes; storage is not looked at (R116, R125, R206, R207; Q bits 0-5 ignored by decision D18). By the
model's choice addresses leave the carry trigger alone (log 67). -/
def Obligations.LaLoadsEffectiveAddress : Prop :=
  ∀ (q : Byte) (o : Operand) (s : State),
    ∃ t, exec (Form.addr .la q o).instr s = .next t ∧ CompletesOne s t q ∧ SameStorage s t ∧
      (let v : Word :=
        match o with
        | .direct a => a
        | .xr1 d => BitVec.ofNat 16 (s.xr1.toNat + d.toNat)
        | .xr2 d => BitVec.ofNat 16 (s.xr2.toNat + d.toNat)
      SameVisible (if q &&& 0x01 = 0x01 then { s with xr1 := v } else { s with xr2 := v }) t)

/-! ## Branches and commands -/

/-- `BC` (`bcZ0`, `bcZ1`, `bcZ2`): if the condition holds the ARR gets the next sequential address and the IAR the
branch-to address, else both stay; Test false and Decimal overflow are reset if tested, branch or no branch; nothing
else changes (R235, R236, R237; the untaken ARR by decision D2, log 21; Q bit 1 tests nothing by decision D8, log
26). By the model's choice addresses leave the carry trigger alone (log 67) and LSR 15 does not follow the PSR (log
68). -/
def Obligations.BcBranches : Prop :=
  ∀ (q : Byte) (o : Operand) (s : State),
    ∃ t, exec (Form.addr .bc q o).instr s = .next t ∧ CompletesOne s t q ∧ SameStorage s t ∧
      (Branches q s.psr →
        SameVisible
          { s with psr := s.psr &&& ~~~(q &&& 0x18), arr := s.iar, iar := s.address o } t) ∧
      (¬Branches q s.psr → SameVisible { s with psr := s.psr &&& ~~~(q &&& 0x18) } t)

/-- `JC` (`jc`): if the condition holds the R-byte is added to the next sequential address in the IAR, else the IAR
keeps it; Test false and Decimal overflow are reset if tested, jump or no jump (R236's inference); the ARR and
everything else stay (R235, R236, R261, R262; the sum modulo 2^16 by decision D14, log 41; Q bit 1 tests nothing by
decision D8, log 26). By the model's choice addresses leave the carry trigger alone (log 67) and LSR 15 does not
follow the PSR (log 68). -/
def Obligations.JcJumps : Prop :=
  ∀ (q r : Byte) (s : State),
    (encode (.jc q r)).head? = some 0xF2 ∧
      ∃ t, exec (.jc q r) s = .next t ∧ CompletesOne s t q ∧ SameStorage s t ∧
        (Branches q s.psr →
          SameVisible
            { s with
              psr := s.psr &&& ~~~(q &&& 0x18)
              iar := BitVec.ofNat 16 (s.iar.toNat + r.toNat) } t) ∧
        (¬Branches q s.psr → SameVisible { s with psr := s.psr &&& ~~~(q &&& 0x18) } t)

/-- `LPMR` (`lpmr`): in privileged mode the PMR gets the R-byte, of which bits 1 to 3 are not kept (decision D31),
and nothing else changes; in nonprivileged mode nothing changes and the MSP stops on the storage exception, the IAR
past the instruction (log 55) (R263, R264, R286; the Q-byte is ignored by decision D28, log 39). By the model's
choice addresses leave the carry trigger alone (log 67). -/
def Obligations.LpmrLoadsOrStops : Prop :=
  ∀ (q r : Byte) (s : State),
    (s.pmr &&& 0x01 = 0 →
      ∃ t, exec (.lpmr q r) s = .next t ∧ CompletesOne s t q ∧ SameStorage s t ∧
        SameVisible { s with pmr := r &&& 0x8F } t) ∧
    (s.pmr &&& 0x01 = 1 →
      ∃ t, exec (.lpmr q r) s = .next t ∧ StopsUnchanged s t .pmrAlter ∧ t.sb3 = s.sb3 ||| 0x01)

/-- `SVC` (`svc`), whose effect is the stop: the R-byte goes to the LCRR, the op code and the Q-byte stand in
LSR 11 and Q-backup, status byte 2 bit 0 is on, the clock stops and level 5 is requested, in every state of that
line (decision D30, log 50); the IAR holds the next sequential address and nothing else changes (R29, R265,
R292). -/
def Obligations.SvcStops : Prop :=
  ∀ (q r : Byte) (s : State),
    ∃ t, exec (.svc q r) s = .next t ∧ StoppedOn s t (.supervisorCall q r) ∧ t.nonexecutable = true ∧
      SameVisible { s with lcrr := r } t ∧ SameControl s t ∧ SameStorage s t ∧
      t.lsr11Op = 0xF4 ∧ t.lsr11Q = q ∧ t.qBackup = q ∧ t.lsr8 = s.lsr8 ∧ t.lsr9 = s.lsr9 ∧ t.sb3 = s.sb3

/-! ## Binary fields -/

/-- `ALC` (`alcX00` to `alcX22`) and `SLC` (`slcX00` to `slcX22`), whatever the overlap: byte by byte, right to
left, with the carry or borrow handed on; the PSR follows the last carry or borrow and whether a result byte was not
zero; nothing else changes (R160, R161, R162; Binary overflow by decision D3, the settings of `SLC` by decision D23,
log 46; the carry trigger of `SLC` holds the inverse of the borrow by log 16). If byte `k` of operand 2 cannot be
read, or then that of operand 1 cannot be used, they stop there with the `k` bytes before it stored (decision D15,
log 42) and the PSR as it was (log 53). By the model's choice LSR 15 does not follow the PSR (log 68). -/
def Obligations.AlcSlcByteSerial : Prop :=
  ∀ (q : Byte) (o1 o2 : Operand) (s : State), Memory.wf s.mem = true →
    let a1 := s.address o1
    let a2 := s.address o2
    let sums (n : Nat) := serialAdd s a1 a2 n s.byteAt false false
    let differences (n : Nat) := serialSub s a1 a2 n s.byteAt false false
    (s.FieldReadable .op2 a2 (q.toNat + 1) → s.FieldWritable a1 (q.toNat + 1) →
      (∃ t, exec (Form.two .alc q o1 o2).instr s = .next t ∧ Completes s t q ∧
        (let r := sums (q.toNat + 1)
        (∀ ra, t.byteAt ra = r.1 ra) ∧ t.carry = r.2.1 ∧
          SameVisible { s with psr := withSum s.psr (!r.2.2) r.2.1 } t)) ∧
      ∃ t, exec (Form.two .slc q o1 o2).instr s = .next t ∧ Completes s t q ∧
        (let r := differences (q.toNat + 1)
        (∀ ra, t.byteAt ra = r.1 ra) ∧ t.carry = !r.2.1 ∧
          SameVisible { s with psr := withCondition s.psr (conditionOf (!r.2.2) r.2.1) } t)) ∧
      ∀ (k : Nat) (e : StopEvent), k < q.toNat + 1 → s.FieldReadable .op2 a2 k → s.FieldWritable a1 k →
        s.MoveFaults (a1 - BitVec.ofNat 16 k) (a2 - BitVec.ofNat 16 k) e →
        (∃ t, exec (Form.two .alc q o1 o2).instr s = .next t ∧ StoppedOn s t e ∧ SameVisible s t ∧
          SameControl s t ∧ ∀ ra, t.byteAt ra = (sums k).1 ra) ∧
        ∃ t, exec (Form.two .slc q o1 o2).instr s = .next t ∧ StoppedOn s t e ∧ SameVisible s t ∧
          SameControl s t ∧ ∀ ra, t.byteAt ra = (differences k).1 ra

/-- `ALC` (`alcX00` to `alcX22`), what that comes to where each byte is read before it is stored over: the operand 1
field becomes the sum of the two fields modulo 256 to its length; Equal for zero, else High with a carry out and Low
without; Binary overflow is the carry out (decision D3); nothing else changes (R161). By the model's choice LSR 15
does not follow the PSR (log 68). -/
def Obligations.AlcAddsBinaryFields : Prop :=
  ∀ (q : Byte) (o1 o2 : Operand) (s : State), Memory.wf s.mem = true →
    s.FieldReadable .op2 (s.address o2) (q.toNat + 1) → s.FieldWritable (s.address o1) (q.toNat + 1) →
    s.FieldDistinct (s.address o1) (q.toNat + 1) →
    s.SourceKept (s.address o1) (q.toNat + 1) (s.address o2) (q.toNat + 1) →
    let sum := s.fieldNat .op1 (s.address o1) (q.toNat + 1) + s.fieldNat .op2 (s.address o2) (q.toNat + 1)
    ∃ t, exec (Form.two .alc q o1 o2).instr s = .next t ∧ Completes s t q ∧
      OnlyField s t (s.address o1) (q.toNat + 1) ∧
      t.fieldNat .op1 (s.address o1) (q.toNat + 1) = sum % 256 ^ (q.toNat + 1) ∧
      SameVisible
        { s with psr := (withSum s.psr (decide (sum % 256 ^ (q.toNat + 1) = 0))
            (decide (256 ^ (q.toNat + 1) ≤ sum))) } t

/-- `SLC` (`slcX00` to `slcX22`), what that comes to where each byte is read before it is stored over: the operand 1
field becomes the difference modulo 256 to its length; Equal for zero, Low when operand 1 was smaller, else High,
settings that decision D23 takes as normative (log 46); nothing else changes (R162). By the model's choice LSR 15
does not follow the PSR (log 68). -/
def Obligations.SlcSubtractsBinaryFields : Prop :=
  ∀ (q : Byte) (o1 o2 : Operand) (s : State), Memory.wf s.mem = true →
    s.FieldReadable .op2 (s.address o2) (q.toNat + 1) → s.FieldWritable (s.address o1) (q.toNat + 1) →
    s.FieldDistinct (s.address o1) (q.toNat + 1) →
    s.SourceKept (s.address o1) (q.toNat + 1) (s.address o2) (q.toNat + 1) →
    let x := s.fieldNat .op1 (s.address o1) (q.toNat + 1)
    let y := s.fieldNat .op2 (s.address o2) (q.toNat + 1)
    ∃ t, exec (Form.two .slc q o1 o2).instr s = .next t ∧ Completes s t q ∧
      OnlyField s t (s.address o1) (q.toNat + 1) ∧
      t.fieldNat .op1 (s.address o1) (q.toNat + 1) =
        (x + 256 ^ (q.toNat + 1) - y) % 256 ^ (q.toNat + 1) ∧
      SameVisible { s with psr := withCondition s.psr (conditionOf (decide (x = y)) (decide (x < y))) } t

/-- `CLC` (`clcX00` to `clcX22`): the two fields are compared as unsigned integers and exactly one of Equal, Low,
High is set; nothing else changes, the carry trigger neither (log 62) (R231). If byte `k` of operand 2 or then of
operand 1 cannot be read, it stops there, and the PSR shows the comparison of the `k` bytes before it. By the model's
choice addresses leave
the carry trigger alone (log 67) and LSR 15 does not follow the PSR (log 68). -/
def Obligations.ClcComparesFields : Prop :=
  ∀ (q : Byte) (o1 o2 : Operand) (s : State),
    let a1 := s.address o1
    let a2 := s.address o2
    let after (n : Nat) : State :=
      let x := s.fieldNat .op1 a1 n
      let y := s.fieldNat .op2 a2 n
      { s with psr := withCondition s.psr (conditionOf (decide (x = y)) (decide (x < y))) }
    (s.FieldReadable .op2 a2 (q.toNat + 1) → s.FieldReadable .op1 a1 (q.toNat + 1) →
      ∃ t, exec (Form.two .clc q o1 o2).instr s = .next t ∧ Completes s t q ∧ t.carry = s.carry ∧
        SameStorage s t ∧ SameVisible (after (q.toNat + 1)) t) ∧
      ∀ (k : Nat) (e : StopEvent), k < q.toNat + 1 → s.FieldReadable .op2 a2 k → s.FieldReadable .op1 a1 k →
        (s.readCheck .op2 (a2 - BitVec.ofNat 16 k) = .error e ∨
          s.canRead .op2 (a2 - BitVec.ofNat 16 k) = true ∧
            s.readCheck .op1 (a1 - BitVec.ofNat 16 k) = .error e) →
        ∃ t, exec (Form.two .clc q o1 o2).instr s = .next t ∧ StoppedOn s t e ∧ SameControl s t ∧
          SameStorage s t ∧ SameVisible (if k = 0 then s else after k) t

/-! ## Edit, insert and test -/

/-- `ED` (`edX00` to `edX22`) over fields that share no byte: each hex 20 of operand 1, from the right, is replaced
by the next digit of operand 2 with zone F; every other byte stays. One operand 2 byte is read, and one more for
each replacement not at the leftmost byte. High, Low, Equal are those of R194 under its three conditions (their
reading by decision D10, log 35; minus is zone D alone by decision D1, log 20) and free otherwise (log 9); nothing
else changes (R193, R194, R195; the extra read by decision D29, log 49). By the model's choice addresses leave the
carry trigger alone (log 67) and LSR 15 does not follow the PSR (log 68). -/
def Obligations.EdReplacesHex20 : Prop :=
  ∀ (q : Byte) (o1 o2 : Operand) (s : State), Memory.wf s.mem = true →
    let a1 := s.address o1
    let a2 := s.address o2
    let reads := 1 + s.count20 a1 q.toNat
    s.FieldReadable .op2 a2 reads → s.FieldReadable .op1 a1 (q.toNat + 1) →
    (∀ i < q.toNat + 1, s.peek .op1 (a1 - BitVec.ofNat 16 i) = 0x20 →
      s.canWrite .op1 (a1 - BitVec.ofNat 16 i) = true) →
    s.FieldDistinct a1 (q.toNat + 1) → s.FieldsDisjoint a1 (q.toNat + 1) a2 reads →
    ∃ t, exec (Form.two .ed q o1 o2).instr s = .next t ∧ Completes s t q ∧ t.carry = s.carry ∧
      t.lsr9 = a2 - BitVec.ofNat 16 reads ∧ OnlyField s t a1 (q.toNat + 1) ∧
      (∀ i < q.toNat + 1, t.peek .op1 (a1 - BitVec.ofNat 16 i) =
        if s.peek .op1 (a1 - BitVec.ofNat 16 i) = 0x20 then
          0xF0 ||| (s.peek .op2 (a2 - BitVec.ofNat 16 (s.count20 a1 i)) &&& 0x0F)
        else s.peek .op1 (a1 - BitVec.ofNat 16 i)) ∧
      SameVisible { s with psr := t.psr } t ∧ t.psr &&& 0xF8 = s.psr &&& 0xF8 ∧
      ((∃ i < q.toNat + 1, s.peek .op1 (a1 - BitVec.ofNat 16 i) = 0x20 ∧
          s.peek .op2 (a2 - BitVec.ofNat 16 (s.count20 a1 i)) &&& 0x0F ≠ 0) →
        t.psr = withCondition s.psr (if s.isMinus .op2 a2 then 0x02 else 0x04)) ∧
      ((∀ i < q.toNat + 1, s.peek .op1 (a1 - BitVec.ofNat 16 i) = 0x20 →
          s.peek .op2 (a2 - BitVec.ofNat 16 (s.count20 a1 i)) &&& 0x0F = 0) →
        s.psr &&& 0x01 = 0x01 ∨ s.peek .op1 a1 = 0x20 →
        t.psr = withCondition s.psr 0x01)

/-- `ITC` (`itcX00` to `itcX22`): from the left, each byte before the first significant one becomes the fill byte of
operand 2, read once; the ARR gets the address of the significant byte, or of the byte to the right of operand 1
when there is none; nothing else changes (R196, R197; what is significant is the parameter of decision D9). `k` is
the number of bytes filled. If the fill byte cannot be read, nothing changes. If byte `k` cannot be read, or is not
significant and cannot be stored, the `k` bytes before it stay filled (decision D15, log 42) and the ARR holds its
address. By the model's choice addresses leave the carry trigger alone (log 67). -/
def Obligations.ItcFillsToFirstSignificant : Prop :=
  ∀ (q : Byte) (o1 o2 : Operand) (s : State), Memory.wf s.mem = true →
    let a1 := s.address o1
    (∀ e, s.readCheck .op2 (s.address o2) = .error e →
      ∃ t, exec (Form.two .itc q o1 o2).instr s = .next t ∧ StopsUnchanged s t e) ∧
    ∀ k : Nat, s.canRead .op2 (s.address o2) = true →
      (∀ i < k, s.canWrite .op1 (a1 + BitVec.ofNat 16 i) = true ∧
        s.cfg.itcSignificant (s.peek .op1 (a1 + BitVec.ofNat 16 i)) = false) →
      let filled (t : State) : Prop :=
        SameVisible { s with arr := a1 + BitVec.ofNat 16 k } t ∧
          (∀ i < k, t.peek .op1 (a1 + BitVec.ofNat 16 i) = s.peek .op2 (s.address o2)) ∧
          ∀ ra, (∀ i < k, ra ≠ s.target .op1 (a1 + BitVec.ofNat 16 i)) → t.byteAt ra = s.byteAt ra
      (k ≤ q.toNat + 1 →
        (k < q.toNat + 1 → s.canRead .op1 (a1 + BitVec.ofNat 16 k) = true ∧
          s.cfg.itcSignificant (s.peek .op1 (a1 + BitVec.ofNat 16 k)) = true) →
        (∀ i < k, ∀ j < q.toNat + 1, i < j →
          s.target .op1 (a1 + BitVec.ofNat 16 i) ≠ s.target .op1 (a1 + BitVec.ofNat 16 j)) →
        ∃ t, exec (Form.two .itc q o1 o2).instr s = .next t ∧ Completes s t q ∧ t.carry = s.carry ∧
          filled t) ∧
      ∀ e : StopEvent, k < q.toNat + 1 →
        (∀ i < k, ∀ j < k, i < j →
          s.target .op1 (a1 + BitVec.ofNat 16 i) ≠ s.target .op1 (a1 + BitVec.ofNat 16 j)) →
        (s.readCheck .op1 (a1 + BitVec.ofNat 16 k) = .error e ∨
          s.canRead .op1 (a1 + BitVec.ofNat 16 k) = true ∧
            (∀ i < k, s.target .op1 (a1 + BitVec.ofNat 16 i) ≠ s.target .op1 (a1 + BitVec.ofNat 16 k)) ∧
            s.cfg.itcSignificant (s.peek .op1 (a1 + BitVec.ofNat 16 k)) = false ∧
            s.writeCheck .op1 (a1 + BitVec.ofNat 16 k) = .error e) →
        ∃ t, exec (Form.two .itc q o1 o2).instr s = .next t ∧ StoppedOn s t e ∧ SameControl s t ∧ filled t

/-! ## Zoned decimal -/

/-- `ZAZ` (`zazX00` to `zazX22`) where no source byte is stored over before it is read: the digits of operand 2 with
zone F go to operand 1 from the right, the bytes beyond its length become hex F0, the rightmost zone is D only for a
negative value that is not zero; High, Low, Equal follow the value; the ARR is A1, or A1 - 1 after a negative zero;
the carry trigger is off, and on after a negative zero (R153; log 16); nothing else changes (R120, R154, R157;
numeric parts A to F by decision D19, log 40; minus is zone D alone by decision D1, log 20). By the model's choice
LSR 15 does not follow the PSR (log 68). -/
def Obligations.ZazMovesSignedDigits : Prop :=
  ∀ (q : Byte) (o1 o2 : Operand) (s : State), Memory.wf s.mem = true →
    let a1 := s.address o1
    let a2 := s.address o2
    let l2 := q.toNat % 16 + 1
    let l1 := q.toNat / 16 + l2
    s.FieldReadable .op2 a2 l2 → s.FieldWritable a1 l1 → s.FieldDistinct a1 l1 →
    s.SourceKept a1 l1 a2 l2 →
    let zero := decide (∀ i < l2, s.peek .op2 (a2 - BitVec.ofNat 16 i) &&& 0x0F = 0)
    ∃ t, exec (Form.two .zaz q o1 o2).instr s = .next t ∧ Completes s t q ∧
      t.carry = (s.isMinus .op2 a2 && zero) ∧
      OnlyField s t a1 l1 ∧
      (∀ i < l1, t.peek .op1 (a1 - BitVec.ofNat 16 i) =
        if i < l2 then
          (if i = 0 ∧ s.isMinus .op2 a2 = true ∧ zero = false then 0xD0 else 0xF0) |||
            (s.peek .op2 (a2 - BitVec.ofNat 16 i) &&& 0x0F)
        else 0xF0) ∧
      SameVisible
        { s with
          psr := withCondition s.psr (conditionOf zero (s.isMinus .op2 a2))
          arr := if s.isMinus .op2 a2 ∧ zero = true then a1 - 1 else a1 } t

/-- `AZ` (`azX00` to `azX22`) and `SZ` (`szX00` to `szX22`) on decimal digits, where no source byte is stored over
before it is read: operand 1 becomes the algebraic sum, respectively difference, modulo ten to its length, digits in
every numeric part, zone F but for zone D in the rightmost byte of a negative result; High, Low, Equal follow the
stored result (decision D20) and a carry out of the leftmost digit turns Decimal overflow on, which nothing turns
off; the ARR is A1 less the recomplement cycles: none, one for a negative zero, or one for each byte when the signs
differ and operand 2 is the larger; nothing else changes but the carry trigger (R120, R150, R155, R156, R157; minus
is zone D alone by decision D1, log 20; the whole field is processed by decision D32, log 51). By the model's choice
LSR 15 does not follow the PSR (log 68). -/
def Obligations.AzSzAddSignedDecimals : Prop :=
  ∀ (sub : Bool) (q : Byte) (o1 o2 : Operand) (s : State), Memory.wf s.mem = true →
    let a1 := s.address o1
    let a2 := s.address o2
    let l2 := q.toNat % 16 + 1
    let l1 := q.toNat / 16 + l2
    s.FieldReadable .op2 a2 l2 → s.FieldWritable a1 l1 → s.FieldDistinct a1 l1 →
    s.SourceKept a1 l1 a2 l2 → s.DecimalField .op1 a1 l1 → s.DecimalField .op2 a2 l2 →
    let r : Int :=
      if sub then s.decimalValue .op1 a1 l1 - s.decimalValue .op2 a2 l2
      else s.decimalValue .op1 a1 l1 + s.decimalValue .op2 a2 l2
    let stored := r.natAbs % 10 ^ l1
    let signsDiffer := s.isMinus .op1 a1 != (s.isMinus .op2 a2 != sub)
    ∃ t, exec (Form.two (if sub then .sz else .az) q o1 o2).instr s = .next t ∧ Completes s t q ∧
      OnlyField s t a1 l1 ∧ t.DecimalField .op1 a1 l1 ∧ t.magnitude .op1 a1 l1 = stored ∧
      (∀ i < l1, zone (t.peek .op1 (a1 - BitVec.ofNat 16 i)) =
        if i = 0 ∧ r < 0 ∧ stored ≠ 0 then 0xD else 0xF) ∧
      SameVisible
        { s with
          psr := withCondition (s.psr ||| (if 10 ^ l1 ≤ r.natAbs then 0x08 else 0x00))
            (conditionOf (decide (stored = 0)) (decide (r < 0)))
          arr :=
            if signsDiffer ∧ s.magnitude .op1 a1 l1 < s.magnitude .op2 a2 l2 then a1 - BitVec.ofNat 16 l1
            else if s.isMinus .op1 a1 ∧ stored = 0 then a1 - 1
            else a1 } t

/-- `ZAZ`, `AZ`, `SZ` and `ED` (`zazX00` to `zazX22`, `azX00` to `azX22`, `szX00` to `szX22`, `edX00` to `edX22`)
complete on any bytes and whatever the overlap: only the operand 1 field, the PSR and, for the decimal ones, the ARR
and the carry trigger change; after a decimal one exactly one of High, Low, Equal is on, and Test false and Binary
overflow are as before (R150, R154, R155, R156, R158, R193; that numeric parts A to F go on is decision D19, log
40). By the model's choice addresses leave the carry trigger alone (log 67) and LSR 15 does not follow the PSR (log
68). -/
def Obligations.DecimalAndEditCompleteOnAnyBytes : Prop :=
  ∀ (q : Byte) (o1 o2 : Operand) (s : State), Memory.wf s.mem = true →
    (∀ op, op = .zaz ∨ op = .az ∨ op = .sz →
      let l2 := q.toNat % 16 + 1
      let l1 := q.toNat / 16 + l2
      s.FieldReadable .op2 (s.address o2) l2 → s.FieldWritable (s.address o1) l1 →
      ∃ t, exec (Form.two op q o1 o2).instr s = .next t ∧ Completes s t q ∧
        OnlyField s t (s.address o1) l1 ∧ SameVisible { s with psr := t.psr, arr := t.arr } t ∧
        t.psr &&& 0xF0 = s.psr &&& 0xF0 ∧
        (t.psr &&& 0x07 = 0x01 ∨ t.psr &&& 0x07 = 0x02 ∨ t.psr &&& 0x07 = 0x04)) ∧
    (s.FieldReadable .op2 (s.address o2) (q.toNat + 1) → s.FieldWritable (s.address o1) (q.toNat + 1) →
      ∃ t, exec (Form.two .ed q o1 o2).instr s = .next t ∧ Completes s t q ∧ t.carry = s.carry ∧
        OnlyField s t (s.address o1) (q.toNat + 1) ∧ SameVisible { s with psr := t.psr } t ∧
        t.psr &&& 0xF8 = s.psr &&& 0xF8)
end

