-- ==== Sys2Proof/Laws/PerInstr.lean ====
section
/-! SUPPORT. Facts about every instruction as syntax, one lemma for each constructor of `Instr`. -/

namespace Sys2Proof.Laws.FormInverse

/-- The form of an instruction names that instruction (spec/30_encoding.md R119). -/
def Statement (i : Instr) : Prop := i.form.instr = i

theorem zazX00 (q : Byte) (a1 : Word) (a2 : Word) : Statement (.zazX00 q a1 a2) := rfl
theorem zazX01 (q : Byte) (a1 : Word) (d2 : Byte) : Statement (.zazX01 q a1 d2) := rfl
theorem zazX02 (q : Byte) (a1 : Word) (d2 : Byte) : Statement (.zazX02 q a1 d2) := rfl
theorem zazX10 (q : Byte) (d1 : Byte) (a2 : Word) : Statement (.zazX10 q d1 a2) := rfl
theorem zazX11 (q : Byte) (d1 : Byte) (d2 : Byte) : Statement (.zazX11 q d1 d2) := rfl
theorem zazX12 (q : Byte) (d1 : Byte) (d2 : Byte) : Statement (.zazX12 q d1 d2) := rfl
theorem zazX20 (q : Byte) (d1 : Byte) (a2 : Word) : Statement (.zazX20 q d1 a2) := rfl
theorem zazX21 (q : Byte) (d1 : Byte) (d2 : Byte) : Statement (.zazX21 q d1 d2) := rfl
theorem zazX22 (q : Byte) (d1 : Byte) (d2 : Byte) : Statement (.zazX22 q d1 d2) := rfl
theorem azX00 (q : Byte) (a1 : Word) (a2 : Word) : Statement (.azX00 q a1 a2) := rfl
theorem azX01 (q : Byte) (a1 : Word) (d2 : Byte) : Statement (.azX01 q a1 d2) := rfl
theorem azX02 (q : Byte) (a1 : Word) (d2 : Byte) : Statement (.azX02 q a1 d2) := rfl
theorem azX10 (q : Byte) (d1 : Byte) (a2 : Word) : Statement (.azX10 q d1 a2) := rfl
theorem azX11 (q : Byte) (d1 : Byte) (d2 : Byte) : Statement (.azX11 q d1 d2) := rfl
theorem azX12 (q : Byte) (d1 : Byte) (d2 : Byte) : Statement (.azX12 q d1 d2) := rfl
theorem azX20 (q : Byte) (d1 : Byte) (a2 : Word) : Statement (.azX20 q d1 a2) := rfl
theorem azX21 (q : Byte) (d1 : Byte) (d2 : Byte) : Statement (.azX21 q d1 d2) := rfl
theorem azX22 (q : Byte) (d1 : Byte) (d2 : Byte) : Statement (.azX22 q d1 d2) := rfl
theorem szX00 (q : Byte) (a1 : Word) (a2 : Word) : Statement (.szX00 q a1 a2) := rfl
theorem szX01 (q : Byte) (a1 : Word) (d2 : Byte) : Statement (.szX01 q a1 d2) := rfl
theorem szX02 (q : Byte) (a1 : Word) (d2 : Byte) : Statement (.szX02 q a1 d2) := rfl
theorem szX10 (q : Byte) (d1 : Byte) (a2 : Word) : Statement (.szX10 q d1 a2) := rfl
theorem szX11 (q : Byte) (d1 : Byte) (d2 : Byte) : Statement (.szX11 q d1 d2) := rfl
theorem szX12 (q : Byte) (d1 : Byte) (d2 : Byte) : Statement (.szX12 q d1 d2) := rfl
theorem szX20 (q : Byte) (d1 : Byte) (a2 : Word) : Statement (.szX20 q d1 a2) := rfl
theorem szX21 (q : Byte) (d1 : Byte) (d2 : Byte) : Statement (.szX21 q d1 d2) := rfl
theorem szX22 (q : Byte) (d1 : Byte) (d2 : Byte) : Statement (.szX22 q d1 d2) := rfl
theorem alcX00 (q : Byte) (a1 : Word) (a2 : Word) : Statement (.alcX00 q a1 a2) := rfl
theorem alcX01 (q : Byte) (a1 : Word) (d2 : Byte) : Statement (.alcX01 q a1 d2) := rfl
theorem alcX02 (q : Byte) (a1 : Word) (d2 : Byte) : Statement (.alcX02 q a1 d2) := rfl
theorem alcX10 (q : Byte) (d1 : Byte) (a2 : Word) : Statement (.alcX10 q d1 a2) := rfl
theorem alcX11 (q : Byte) (d1 : Byte) (d2 : Byte) : Statement (.alcX11 q d1 d2) := rfl
theorem alcX12 (q : Byte) (d1 : Byte) (d2 : Byte) : Statement (.alcX12 q d1 d2) := rfl
theorem alcX20 (q : Byte) (d1 : Byte) (a2 : Word) : Statement (.alcX20 q d1 a2) := rfl
theorem alcX21 (q : Byte) (d1 : Byte) (d2 : Byte) : Statement (.alcX21 q d1 d2) := rfl
theorem alcX22 (q : Byte) (d1 : Byte) (d2 : Byte) : Statement (.alcX22 q d1 d2) := rfl
theorem slcX00 (q : Byte) (a1 : Word) (a2 : Word) : Statement (.slcX00 q a1 a2) := rfl
theorem slcX01 (q : Byte) (a1 : Word) (d2 : Byte) : Statement (.slcX01 q a1 d2) := rfl
theorem slcX02 (q : Byte) (a1 : Word) (d2 : Byte) : Statement (.slcX02 q a1 d2) := rfl
theorem slcX10 (q : Byte) (d1 : Byte) (a2 : Word) : Statement (.slcX10 q d1 a2) := rfl
theorem slcX11 (q : Byte) (d1 : Byte) (d2 : Byte) : Statement (.slcX11 q d1 d2) := rfl
theorem slcX12 (q : Byte) (d1 : Byte) (d2 : Byte) : Statement (.slcX12 q d1 d2) := rfl
theorem slcX20 (q : Byte) (d1 : Byte) (a2 : Word) : Statement (.slcX20 q d1 a2) := rfl
theorem slcX21 (q : Byte) (d1 : Byte) (d2 : Byte) : Statement (.slcX21 q d1 d2) := rfl
theorem slcX22 (q : Byte) (d1 : Byte) (d2 : Byte) : Statement (.slcX22 q d1 d2) := rfl
theorem aY0 (q : Byte) (a1 : Word) : Statement (.aY0 q a1) := rfl
theorem aY1 (q : Byte) (d1 : Byte) : Statement (.aY1 q d1) := rfl
theorem aY2 (q : Byte) (d1 : Byte) : Statement (.aY2 q d1) := rfl
theorem mvxX00 (q : Byte) (a1 : Word) (a2 : Word) : Statement (.mvxX00 q a1 a2) := rfl
theorem mvxX01 (q : Byte) (a1 : Word) (d2 : Byte) : Statement (.mvxX01 q a1 d2) := rfl
theorem mvxX02 (q : Byte) (a1 : Word) (d2 : Byte) : Statement (.mvxX02 q a1 d2) := rfl
theorem mvxX10 (q : Byte) (d1 : Byte) (a2 : Word) : Statement (.mvxX10 q d1 a2) := rfl
theorem mvxX11 (q : Byte) (d1 : Byte) (d2 : Byte) : Statement (.mvxX11 q d1 d2) := rfl
theorem mvxX12 (q : Byte) (d1 : Byte) (d2 : Byte) : Statement (.mvxX12 q d1 d2) := rfl
theorem mvxX20 (q : Byte) (d1 : Byte) (a2 : Word) : Statement (.mvxX20 q d1 a2) := rfl
theorem mvxX21 (q : Byte) (d1 : Byte) (d2 : Byte) : Statement (.mvxX21 q d1 d2) := rfl
theorem mvxX22 (q : Byte) (d1 : Byte) (d2 : Byte) : Statement (.mvxX22 q d1 d2) := rfl
theorem mvcX00 (q : Byte) (a1 : Word) (a2 : Word) : Statement (.mvcX00 q a1 a2) := rfl
theorem mvcX01 (q : Byte) (a1 : Word) (d2 : Byte) : Statement (.mvcX01 q a1 d2) := rfl
theorem mvcX02 (q : Byte) (a1 : Word) (d2 : Byte) : Statement (.mvcX02 q a1 d2) := rfl
theorem mvcX10 (q : Byte) (d1 : Byte) (a2 : Word) : Statement (.mvcX10 q d1 a2) := rfl
theorem mvcX11 (q : Byte) (d1 : Byte) (d2 : Byte) : Statement (.mvcX11 q d1 d2) := rfl
theorem mvcX12 (q : Byte) (d1 : Byte) (d2 : Byte) : Statement (.mvcX12 q d1 d2) := rfl
theorem mvcX20 (q : Byte) (d1 : Byte) (a2 : Word) : Statement (.mvcX20 q d1 a2) := rfl
theorem mvcX21 (q : Byte) (d1 : Byte) (d2 : Byte) : Statement (.mvcX21 q d1 d2) := rfl
theorem mvcX22 (q : Byte) (d1 : Byte) (d2 : Byte) : Statement (.mvcX22 q d1 d2) := rfl
theorem edX00 (q : Byte) (a1 : Word) (a2 : Word) : Statement (.edX00 q a1 a2) := rfl
theorem edX01 (q : Byte) (a1 : Word) (d2 : Byte) : Statement (.edX01 q a1 d2) := rfl
theorem edX02 (q : Byte) (a1 : Word) (d2 : Byte) : Statement (.edX02 q a1 d2) := rfl
theorem edX10 (q : Byte) (d1 : Byte) (a2 : Word) : Statement (.edX10 q d1 a2) := rfl
theorem edX11 (q : Byte) (d1 : Byte) (d2 : Byte) : Statement (.edX11 q d1 d2) := rfl
theorem edX12 (q : Byte) (d1 : Byte) (d2 : Byte) : Statement (.edX12 q d1 d2) := rfl
theorem edX20 (q : Byte) (d1 : Byte) (a2 : Word) : Statement (.edX20 q d1 a2) := rfl
theorem edX21 (q : Byte) (d1 : Byte) (d2 : Byte) : Statement (.edX21 q d1 d2) := rfl
theorem edX22 (q : Byte) (d1 : Byte) (d2 : Byte) : Statement (.edX22 q d1 d2) := rfl
theorem itcX00 (q : Byte) (a1 : Word) (a2 : Word) : Statement (.itcX00 q a1 a2) := rfl
theorem itcX01 (q : Byte) (a1 : Word) (d2 : Byte) : Statement (.itcX01 q a1 d2) := rfl
theorem itcX02 (q : Byte) (a1 : Word) (d2 : Byte) : Statement (.itcX02 q a1 d2) := rfl
theorem itcX10 (q : Byte) (d1 : Byte) (a2 : Word) : Statement (.itcX10 q d1 a2) := rfl
theorem itcX11 (q : Byte) (d1 : Byte) (d2 : Byte) : Statement (.itcX11 q d1 d2) := rfl
theorem itcX12 (q : Byte) (d1 : Byte) (d2 : Byte) : Statement (.itcX12 q d1 d2) := rfl
theorem itcX20 (q : Byte) (d1 : Byte) (a2 : Word) : Statement (.itcX20 q d1 a2) := rfl
theorem itcX21 (q : Byte) (d1 : Byte) (d2 : Byte) : Statement (.itcX21 q d1 d2) := rfl
theorem itcX22 (q : Byte) (d1 : Byte) (d2 : Byte) : Statement (.itcX22 q d1 d2) := rfl
theorem mviY0 (q : Byte) (a1 : Word) : Statement (.mviY0 q a1) := rfl
theorem mviY1 (q : Byte) (d1 : Byte) : Statement (.mviY1 q d1) := rfl
theorem mviY2 (q : Byte) (d1 : Byte) : Statement (.mviY2 q d1) := rfl
theorem sbnY0 (q : Byte) (a1 : Word) : Statement (.sbnY0 q a1) := rfl
theorem sbnY1 (q : Byte) (d1 : Byte) : Statement (.sbnY1 q d1) := rfl
theorem sbnY2 (q : Byte) (d1 : Byte) : Statement (.sbnY2 q d1) := rfl
theorem sbfY0 (q : Byte) (a1 : Word) : Statement (.sbfY0 q a1) := rfl
theorem sbfY1 (q : Byte) (d1 : Byte) : Statement (.sbfY1 q d1) := rfl
theorem sbfY2 (q : Byte) (d1 : Byte) : Statement (.sbfY2 q d1) := rfl
theorem stY0 (q : Byte) (a1 : Word) : Statement (.stY0 q a1) := rfl
theorem stY1 (q : Byte) (d1 : Byte) : Statement (.stY1 q d1) := rfl
theorem stY2 (q : Byte) (d1 : Byte) : Statement (.stY2 q d1) := rfl
theorem lY0 (q : Byte) (a1 : Word) : Statement (.lY0 q a1) := rfl
theorem lY1 (q : Byte) (d1 : Byte) : Statement (.lY1 q d1) := rfl
theorem lY2 (q : Byte) (d1 : Byte) : Statement (.lY2 q d1) := rfl
theorem laZ0 (q : Byte) (a1 : Word) : Statement (.laZ0 q a1) := rfl
theorem laZ1 (q : Byte) (d1 : Byte) : Statement (.laZ1 q d1) := rfl
theorem laZ2 (q : Byte) (d1 : Byte) : Statement (.laZ2 q d1) := rfl
theorem cliY0 (q : Byte) (a1 : Word) : Statement (.cliY0 q a1) := rfl
theorem cliY1 (q : Byte) (d1 : Byte) : Statement (.cliY1 q d1) := rfl
theorem cliY2 (q : Byte) (d1 : Byte) : Statement (.cliY2 q d1) := rfl
theorem clcX00 (q : Byte) (a1 : Word) (a2 : Word) : Statement (.clcX00 q a1 a2) := rfl
theorem clcX01 (q : Byte) (a1 : Word) (d2 : Byte) : Statement (.clcX01 q a1 d2) := rfl
theorem clcX02 (q : Byte) (a1 : Word) (d2 : Byte) : Statement (.clcX02 q a1 d2) := rfl
theorem clcX10 (q : Byte) (d1 : Byte) (a2 : Word) : Statement (.clcX10 q d1 a2) := rfl
theorem clcX11 (q : Byte) (d1 : Byte) (d2 : Byte) : Statement (.clcX11 q d1 d2) := rfl
theorem clcX12 (q : Byte) (d1 : Byte) (d2 : Byte) : Statement (.clcX12 q d1 d2) := rfl
theorem clcX20 (q : Byte) (d1 : Byte) (a2 : Word) : Statement (.clcX20 q d1 a2) := rfl
theorem clcX21 (q : Byte) (d1 : Byte) (d2 : Byte) : Statement (.clcX21 q d1 d2) := rfl
theorem clcX22 (q : Byte) (d1 : Byte) (d2 : Byte) : Statement (.clcX22 q d1 d2) := rfl
theorem tbnY0 (q : Byte) (a1 : Word) : Statement (.tbnY0 q a1) := rfl
theorem tbnY1 (q : Byte) (d1 : Byte) : Statement (.tbnY1 q d1) := rfl
theorem tbnY2 (q : Byte) (d1 : Byte) : Statement (.tbnY2 q d1) := rfl
theorem tbfY0 (q : Byte) (a1 : Word) : Statement (.tbfY0 q a1) := rfl
theorem tbfY1 (q : Byte) (d1 : Byte) : Statement (.tbfY1 q d1) := rfl
theorem tbfY2 (q : Byte) (d1 : Byte) : Statement (.tbfY2 q d1) := rfl
theorem bcZ0 (q : Byte) (a1 : Word) : Statement (.bcZ0 q a1) := rfl
theorem bcZ1 (q : Byte) (d1 : Byte) : Statement (.bcZ1 q d1) := rfl
theorem bcZ2 (q : Byte) (d1 : Byte) : Statement (.bcZ2 q d1) := rfl
theorem jc (q : Byte) (r : Byte) : Statement (.jc q r) := rfl
theorem lpmr (q : Byte) (r : Byte) : Statement (.lpmr q r) := rfl
theorem svc (q : Byte) (r : Byte) : Statement (.svc q r) := rfl

end Sys2Proof.Laws.FormInverse
end

