-- ==== Sys2Proof/Laws/Exec.lean ====
section
/-! SUPPORT. `exec` read through the form of an instruction: one meaning for each mnemonic. -/

namespace Sys2Proof.Machine

/-- The meaning of a two-address operation. -/
def twoForm : TwoOp → Byte → Operand → Operand → State → Result
  | .zaz => zazForm
  | .az => azForm
  | .sz => szForm
  | .mvx => mvxForm
  | .ed => edForm
  | .itc => itcForm
  | .mvc => mvcForm
  | .clc => clcForm
  | .alc => alcForm
  | .slc => slcForm

/-- The meaning of a type Y operation. -/
def oneForm : OneOp → Byte → Operand → State → Result
  | .st => stForm
  | .l => lForm
  | .a => aForm
  | .tbn => tbnForm
  | .tbf => tbfForm
  | .sbn => sbnForm
  | .sbf => sbfForm
  | .mvi => mviForm
  | .cli => cliForm

/-- The meaning of a type Z operation. -/
def addrForm : AddrOp → Byte → Operand → State → Result
  | .bc => bcForm
  | .la => laForm

/-- The meaning of a command. -/
def cmdForm : CmdOp → Byte → Byte → State → Result
  | .jc => execJc
  | .svc => execSvc
  | .lpmr => execLpmr

/-- The meaning of a form. -/
def execForm : Form → State → Result
  | .two op q o1 o2 => twoForm op q o1 o2
  | .one op q o => oneForm op q o
  | .addr op q o => addrForm op q o
  | .cmd op q r => cmdForm op q r

/-- `exec` is the meaning of the instruction's form. -/
theorem exec_eq_execForm (i : Instr) (s : State) : exec i s = execForm i.form s := by
  cases i <;> rfl

/-- The form of a form's instruction is that form. -/
@[simp] theorem form_instr (f : Form) : f.instr.form = f := by
  cases f with
  | two op q o1 o2 => cases op <;> cases o1 <;> cases o2 <;> rfl
  | one op q o => cases op <;> cases o <;> rfl
  | addr op q o => cases op <;> cases o <;> rfl
  | cmd op q r => cases op <;> rfl

/-- `exec` of a form's instruction. -/
theorem exec_instr (f : Form) (s : State) : exec f.instr s = execForm f s := by
  rw [exec_eq_execForm, form_instr]

end Sys2Proof.Machine
end

