-- ==== Sys2Proof/Laws/Decode.lean ====
section
/-! SUPPORT. Bytes, op bytes and operands: the small facts decoding and encoding rest on. -/

namespace Sys2Proof

theorem hi_join (h l : Byte) : hi (join h l) = h := by
  unfold hi join
  apply BitVec.eq_of_getElem_eq
  intro j hj
  rw [BitVec.getElem_extractLsb', BitVec.getLsbD_append]
  simp
  rfl

theorem lo_join (h l : Byte) : lo (join h l) = l := by
  unfold lo join
  apply BitVec.eq_of_getElem_eq
  intro j hj
  rw [BitVec.getElem_extractLsb', BitVec.getLsbD_append]
  simp [hj]

theorem join_hi_lo (a : Word) : join (hi a) (lo a) = a := by
  apply BitVec.eq_of_getElem_eq
  intro j hj
  unfold join hi lo
  rw [BitVec.getElem_append]
  split
  · simp [BitVec.getLsbD_eq_getElem, hj]
  · have : 8 + (j - 8) = j := by omega
    simp [this, BitVec.getLsbD_eq_getElem, hj]

/-- The zone and the numeric part of a byte made of the two (R9). -/
theorem num_zone_zoned : ∀ z n : BitVec 4, num (zoned z n) = n ∧ zone (zoned z n) = z := by decide +kernel

/-- The op byte of a header decodes to that header (R111, R119). -/
theorem headerOf_opByte (h : Header) : headerOf h.opByte = some h := by
  cases h with
  | two op m1 m2 => cases op <;> cases m1 <;> cases m2 <;> rfl
  | one op m => cases op <;> cases m <;> rfl
  | addr op m => cases op <;> cases m <;> rfl
  | cmd op => cases op <;> rfl

/-- An op byte that decodes is the op byte of its header. -/
theorem opByte_of_headerOf (op : Byte) (h : Header) (e : headerOf op = some h) : h.opByte = op := by
  have all : ∀ op : Byte, (match headerOf op with | some h => h.opByte == op | none => true) = true := by
    decide +kernel
  have := all op
  rw [e] at this
  simpa using this

/-- An operand is read back from its bytes (R115). -/
theorem takeOperand_bytes (o : Operand) (rest : List Byte) :
    takeOperand o.mode (o.bytes ++ rest) = some (o, rest) := by
  cases o <;> simp [takeOperand, Operand.mode, Operand.bytes, join_hi_lo]

/-- What an operand was read from is its bytes (R115). -/
theorem bytes_of_takeOperand {m : Mode} {bytes rest : List Byte} {o : Operand}
    (h : takeOperand m bytes = some (o, rest)) : o.mode = m ∧ bytes = o.bytes ++ rest := by
  unfold takeOperand at h
  split at h <;> simp at h <;> obtain ⟨rfl, rfl⟩ := h <;>
    simp [Operand.mode, Operand.bytes, hi_join, lo_join]

/-- An instruction is that of its form. -/
theorem instr_form (i : Instr) : i.form.instr = i := by cases i <;> rfl

/-- A property of every form's instruction is one of every instruction. -/
theorem forall_instr_of_form {P : Instr → Prop} (h : ∀ f : Form, P f.instr) (i : Instr) : P i :=
  instr_form i ▸ h i.form

end Sys2Proof
end

