-- ==== Sys2Proof/Laws/Memory.lean ====
section
/-! SUPPORT. The laws of main storage as a list: a read after a write, and that a write keeps the canonical
form. -/

namespace Sys2Proof.Machine

variable {m m' : List Host.Cell} {a a' n : Nat} {b : Byte}

theorem Memory.above_mono (h : a' ≤ a) : Memory.above a m = true → Memory.above a' m = true := by
  induction m with
  | nil => simp [Memory.above]
  | cons c m ih =>
    simp only [Memory.above, Bool.and_eq_true, decide_eq_true_eq]
    exact fun ⟨h1, h2⟩ => ⟨by omega, ih h2⟩

/-- An address at or below every listed one reads blank. -/
theorem Memory.read_of_above (h : Memory.above n m = true) (ha : a ≤ n) :
    Memory.read m a = Memory.blank := by
  induction m with
  | nil => rfl
  | cons c m ih =>
    simp only [Memory.above, Bool.and_eq_true, decide_eq_true_eq] at h
    have : c.1 ≠ a := by omega
    simp [Memory.read, this, ih h.2]

theorem Memory.above_write (hn : n < a) (h : Memory.above n m = true) :
    Memory.above n (Memory.write m a b) = true := by
  induction m with
  | nil => by_cases hb : b = Memory.blank <;> simp [Memory.write, Memory.above, hb, hn]
  | cons c m ih =>
    simp only [Memory.above, Bool.and_eq_true, decide_eq_true_eq] at h
    unfold Memory.write
    split_ifs <;> simp [Memory.above, h.1, h.2, hn, ih h.2]

/-- Writing keeps the canonical form. -/
theorem Memory.wf_write (h : Memory.wf m = true) : Memory.wf (Memory.write m a b) = true := by
  induction m with
  | nil => by_cases hb : b = Memory.blank <;> simp [Memory.write, Memory.wf, Memory.above, hb]
  | cons c m ih =>
    simp only [Memory.wf, Bool.and_eq_true, bne_iff_ne, ne_eq] at h
    obtain ⟨⟨hc, ha⟩, hm⟩ := h
    unfold Memory.write
    split_ifs with h1 h2 h3 h4
    · simp [Memory.wf, hc, ha, hm]
    · simp [Memory.wf, Memory.above, hc, ha, hm, h1, h2, Memory.above_mono (Nat.le_of_lt h1) ha]
    · exact hm
    · subst h3; simp [Memory.wf, h4, ha, hm]
    · have : c.1 < a := by omega
      simp [Memory.wf, hc, ih hm, Memory.above_write this ha]

/-- The byte written is the byte read. -/
theorem Memory.read_write_same (h : Memory.wf m = true) : Memory.read (Memory.write m a b) a = b := by
  induction m with
  | nil => by_cases hb : b = Memory.blank <;> simp [Memory.write, Memory.read, hb]
  | cons c m ih =>
    simp only [Memory.wf, Bool.and_eq_true, bne_iff_ne, ne_eq] at h
    obtain ⟨⟨hc, ha⟩, hm⟩ := h
    unfold Memory.write
    split_ifs with h1 h2 h3 h4
    · have : c.1 ≠ a := by omega
      simp [Memory.read, this, h2, Memory.read_of_above ha (Nat.le_of_lt h1)]
    · simp [Memory.read]
    · subst h3; rw [Memory.read_of_above ha (Nat.le_refl _), h4]
    · simp [Memory.read]
    · have : c.1 ≠ a := fun e => h3 e.symm
      simp [Memory.read, this, ih hm]

/-- A write leaves every other address alone. -/
theorem Memory.read_write_other (h : Memory.wf m = true) (hn : a' ≠ a) :
    Memory.read (Memory.write m a b) a' = Memory.read m a' := by
  induction m with
  | nil => by_cases hb : b = Memory.blank <;> simp [Memory.write, Memory.read, hb, hn.symm]
  | cons c m ih =>
    simp only [Memory.wf, Bool.and_eq_true, bne_iff_ne, ne_eq] at h
    obtain ⟨⟨hc, ha⟩, hm⟩ := h
    unfold Memory.write
    split_ifs with h1 h2 h3 h4
    · rfl
    · simp [Memory.read, hn.symm]
    · have : c.1 ≠ a' := by omega
      simp [Memory.read, this]
    · have : c.1 ≠ a' := by omega
      simp [Memory.read, this, hn.symm]
    · simp [Memory.read, ih hm]

/-- Both at once: what a write leaves at each address. -/
theorem Memory.read_write (h : Memory.wf m = true) :
    Memory.read (Memory.write m a b) a' = if a' = a then b else Memory.read m a' := by
  split_ifs with e
  · subst e; exact Memory.read_write_same h
  · exact Memory.read_write_other h e

theorem Memory.below_write (ha : a < n) (h : Memory.below n m = true) :
    Memory.below n (Memory.write m a b) = true := by
  induction m with
  | nil => by_cases hb : b = Memory.blank <;> simp [Memory.write, Memory.below, hb, ha]
  | cons c m ih =>
    simp only [Memory.below, Bool.and_eq_true, decide_eq_true_eq] at h
    unfold Memory.write
    split_ifs <;> simp [Memory.below, h.1, h.2, ha, ih h.2]

/-- A listed address reads what its cell holds, which is not blank, so two canonical memories that read the
same everywhere are the same list. -/
theorem Memory.ext_read (h : Memory.wf m = true) (h' : Memory.wf m' = true)
    (e : ∀ a, Memory.read m a = Memory.read m' a) : m = m' := by
  induction m generalizing m' with
  | nil =>
    cases m' with
    | nil => rfl
    | cons c m' =>
      simp only [Memory.wf, Bool.and_eq_true, bne_iff_ne, ne_eq] at h'
      have := e c.1
      simp [Memory.read] at this
      exact absurd this.symm h'.1.1
  | cons c m ih =>
    have hw := h
    simp only [Memory.wf, Bool.and_eq_true, bne_iff_ne, ne_eq] at h
    obtain ⟨⟨hc, ha⟩, hm⟩ := h
    cases m' with
    | nil =>
      have := e c.1
      simp [Memory.read] at this
      exact absurd this hc
    | cons c' m' =>
      simp only [Memory.wf, Bool.and_eq_true, bne_iff_ne, ne_eq] at h'
      obtain ⟨⟨hc', ha'⟩, hm'⟩ := h'
      have e1 := e c.1
      have e2 := e c'.1
      have hk : c.1 = c'.1 := by
        rcases Nat.lt_trichotomy c.1 c'.1 with hl | hl | hl
        · have n1 : c'.1 ≠ c.1 := by omega
          simp only [Memory.read, if_true, if_neg n1, Memory.read_of_above ha' (Nat.le_of_lt hl)] at e1
          exact absurd e1 hc
        · exact hl
        · have n1 : c.1 ≠ c'.1 := by omega
          simp only [Memory.read, if_true, if_neg n1, Memory.read_of_above ha (Nat.le_of_lt hl)] at e2
          exact absurd e2.symm hc'
      have hv : c.2 = c'.2 := by simpa [Memory.read, hk] using e1
      have hcc : c = c' := Prod.ext hk hv
      subst hcc
      refine congrArg (c :: ·) (ih hm hm' fun a => ?_)
      by_cases hca : c.1 = a
      · subst hca
        rw [Memory.read_of_above ha (Nat.le_refl _), Memory.read_of_above ha' (Nat.le_refl _)]
      · simpa [Memory.read, hca] using e a

end Sys2Proof.Machine
end

