-- ==== Sys2Proof/Laws/State.lean ====
section
/-! SUPPORT. One lemma for each field of each named update of the state: what the update leaves it at. -/

namespace Sys2Proof.Machine

variable (s : State)

/-! ### `State.stop` -/

@[simp] theorem State.stop_lsrReserved (e : StopEvent) : (s.stop e).lsrReserved = s.lsrReserved := rfl
@[simp] theorem State.stop_lsr8 (e : StopEvent) : (s.stop e).lsr8 = s.lsr8 := rfl
@[simp] theorem State.stop_lsr9 (e : StopEvent) : (s.stop e).lsr9 = s.lsr9 := rfl
@[simp] theorem State.stop_iar (e : StopEvent) : (s.stop e).iar = s.iar := rfl
@[simp] theorem State.stop_lsr11Op (e : StopEvent) : (s.stop e).lsr11Op = s.lsr11Op := rfl
@[simp] theorem State.stop_lsr11Q (e : StopEvent) : (s.stop e).lsr11Q = s.lsr11Q := rfl
@[simp] theorem State.stop_xr1 (e : StopEvent) : (s.stop e).xr1 = s.xr1 := rfl
@[simp] theorem State.stop_xr2 (e : StopEvent) : (s.stop e).xr2 = s.xr2 := rfl
@[simp] theorem State.stop_arr (e : StopEvent) : (s.stop e).arr = s.arr := rfl
@[simp] theorem State.stop_lcrr (e : StopEvent) : (s.stop e).lcrr = s.lcrr := rfl
@[simp] theorem State.stop_psrLsr (e : StopEvent) : (s.stop e).psrLsr = s.psrLsr := rfl
@[simp] theorem State.stop_psr (e : StopEvent) : (s.stop e).psr = s.psr := rfl
@[simp] theorem State.stop_pmr (e : StopEvent) : (s.stop e).pmr = s.pmr := rfl
@[simp] theorem State.stop_opReg (e : StopEvent) : (s.stop e).opReg = s.opReg := rfl
@[simp] theorem State.stop_qReg (e : StopEvent) : (s.stop e).qReg = s.qReg := rfl
@[simp] theorem State.stop_qBackup (e : StopEvent) : (s.stop e).qBackup = s.qBackup := rfl
@[simp] theorem State.stop_xHigh (e : StopEvent) : (s.stop e).xHigh = s.xHigh := rfl
@[simp] theorem State.stop_xLow (e : StopEvent) : (s.stop e).xLow = s.xLow := rfl
@[simp] theorem State.stop_y (e : StopEvent) : (s.stop e).y = s.y := rfl
@[simp] theorem State.stop_msar (e : StopEvent) : (s.stop e).msar = s.msar := rfl
@[simp] theorem State.stop_firstCycle (e : StopEvent) : (s.stop e).firstCycle = s.firstCycle := rfl
@[simp] theorem State.stop_complement (e : StopEvent) : (s.stop e).complement = s.complement := rfl
@[simp] theorem State.stop_recomplement (e : StopEvent) : (s.stop e).recomplement = s.recomplement := rfl
@[simp] theorem State.stop_carry (e : StopEvent) : (s.stop e).carry = s.carry := rfl
@[simp] theorem State.stop_stepMode (e : StopEvent) : (s.stop e).stepMode = s.stepMode := rfl
@[simp] theorem State.stop_clockRun (e : StopEvent) : (s.stop e).clockRun = false := rfl
@[simp] theorem State.stop_atr (e : StopEvent) : (s.stop e).atr = s.atr := rfl
@[simp] theorem State.stop_cmr (e : StopEvent) : (s.stop e).cmr = s.cmr := rfl
@[simp] theorem State.stop_bmr (e : StopEvent) : (s.stop e).bmr = s.bmr := rfl
@[simp] theorem State.stop_ccr (e : StopEvent) : (s.stop e).ccr = s.ccr := rfl
@[simp] theorem State.stop_acr (e : StopEvent) : (s.stop e).acr = s.acr := rfl
@[simp] theorem State.stop_nonexecutable (e : StopEvent) : (s.stop e).nonexecutable = (s.nonexecutable || e.setsNonexecutable) := rfl
@[simp] theorem State.stop_controlGateCheck (e : StopEvent) : (s.stop e).controlGateCheck = s.controlGateCheck := rfl
@[simp] theorem State.stop_lsrGateCheck (e : StopEvent) : (s.stop e).lsrGateCheck = s.lsrGateCheck := rfl
@[simp] theorem State.stop_storageGateCheck (e : StopEvent) : (s.stop e).storageGateCheck = s.storageGateCheck := rfl
@[simp] theorem State.stop_addressCheck (e : StopEvent) : (s.stop e).addressCheck = s.addressCheck := rfl
@[simp] theorem State.stop_sb3 (e : StopEvent) : (s.stop e).sb3 = s.sb3 ||| e.sb3Bits := rfl
@[simp] theorem State.stop_processorError (e : StopEvent) : (s.stop e).processorError = s.processorError := rfl
@[simp] theorem State.stop_level5 (e : StopEvent) : (s.stop e).level5 = true := rfl
@[simp] theorem State.stop_mem (e : StopEvent) : (s.stop e).mem = s.mem := rfl
@[simp] theorem State.stop_ceAddressStop (e : StopEvent) : (s.stop e).ceAddressStop = s.ceAddressStop := rfl
@[simp] theorem State.stop_cfg (e : StopEvent) : (s.stop e).cfg = s.cfg := rfl
@[simp] theorem State.stop_stopped (e : StopEvent) : (s.stop e).stopped = some e := rfl
@[simp] theorem State.stop_compareHit (e : StopEvent) : (s.stop e).compareHit = s.compareHit := rfl
@[simp] theorem State.stop_freeCount (e : StopEvent) : (s.stop e).freeCount = s.freeCount + 1 := rfl
@[simp] theorem State.stop_host (e : StopEvent) : (s.stop e).host = s.host := rfl

/-! ### `State.startClock` -/

@[simp] theorem State.startClock_lsrReserved : (s.startClock).lsrReserved = s.lsrReserved := rfl
@[simp] theorem State.startClock_lsr8 : (s.startClock).lsr8 = s.lsr8 := rfl
@[simp] theorem State.startClock_lsr9 : (s.startClock).lsr9 = s.lsr9 := rfl
@[simp] theorem State.startClock_iar : (s.startClock).iar = s.iar := rfl
@[simp] theorem State.startClock_lsr11Op : (s.startClock).lsr11Op = s.lsr11Op := rfl
@[simp] theorem State.startClock_lsr11Q : (s.startClock).lsr11Q = s.lsr11Q := rfl
@[simp] theorem State.startClock_xr1 : (s.startClock).xr1 = s.xr1 := rfl
@[simp] theorem State.startClock_xr2 : (s.startClock).xr2 = s.xr2 := rfl
@[simp] theorem State.startClock_arr : (s.startClock).arr = s.arr := rfl
@[simp] theorem State.startClock_lcrr : (s.startClock).lcrr = s.lcrr := rfl
@[simp] theorem State.startClock_psrLsr : (s.startClock).psrLsr = s.psrLsr := rfl
@[simp] theorem State.startClock_psr : (s.startClock).psr = s.psr := rfl
@[simp] theorem State.startClock_pmr : (s.startClock).pmr = s.pmr := rfl
@[simp] theorem State.startClock_opReg : (s.startClock).opReg = s.opReg := rfl
@[simp] theorem State.startClock_qReg : (s.startClock).qReg = s.qReg := rfl
@[simp] theorem State.startClock_qBackup : (s.startClock).qBackup = s.qBackup := rfl
@[simp] theorem State.startClock_xHigh : (s.startClock).xHigh = s.xHigh := rfl
@[simp] theorem State.startClock_xLow : (s.startClock).xLow = s.xLow := rfl
@[simp] theorem State.startClock_y : (s.startClock).y = s.y := rfl
@[simp] theorem State.startClock_msar : (s.startClock).msar = s.msar := rfl
@[simp] theorem State.startClock_firstCycle : (s.startClock).firstCycle = s.firstCycle := rfl
@[simp] theorem State.startClock_complement : (s.startClock).complement = s.complement := rfl
@[simp] theorem State.startClock_recomplement : (s.startClock).recomplement = s.recomplement := rfl
@[simp] theorem State.startClock_carry : (s.startClock).carry = s.carry := rfl
@[simp] theorem State.startClock_stepMode : (s.startClock).stepMode = s.stepMode := rfl
@[simp] theorem State.startClock_clockRun : (s.startClock).clockRun = true := rfl
@[simp] theorem State.startClock_atr : (s.startClock).atr = s.atr := rfl
@[simp] theorem State.startClock_cmr : (s.startClock).cmr = s.cmr := rfl
@[simp] theorem State.startClock_bmr : (s.startClock).bmr = s.bmr := rfl
@[simp] theorem State.startClock_ccr : (s.startClock).ccr = s.ccr := rfl
@[simp] theorem State.startClock_acr : (s.startClock).acr = s.acr := rfl
@[simp] theorem State.startClock_nonexecutable : (s.startClock).nonexecutable = s.nonexecutable := rfl
@[simp] theorem State.startClock_controlGateCheck : (s.startClock).controlGateCheck = s.controlGateCheck := rfl
@[simp] theorem State.startClock_lsrGateCheck : (s.startClock).lsrGateCheck = s.lsrGateCheck := rfl
@[simp] theorem State.startClock_storageGateCheck : (s.startClock).storageGateCheck = s.storageGateCheck := rfl
@[simp] theorem State.startClock_addressCheck : (s.startClock).addressCheck = s.addressCheck := rfl
@[simp] theorem State.startClock_sb3 : (s.startClock).sb3 = s.sb3 := rfl
@[simp] theorem State.startClock_processorError : (s.startClock).processorError = s.processorError := rfl
@[simp] theorem State.startClock_level5 : (s.startClock).level5 = s.level5 := rfl
@[simp] theorem State.startClock_mem : (s.startClock).mem = s.mem := rfl
@[simp] theorem State.startClock_ceAddressStop : (s.startClock).ceAddressStop = s.ceAddressStop := rfl
@[simp] theorem State.startClock_cfg : (s.startClock).cfg = s.cfg := rfl
@[simp] theorem State.startClock_stopped : (s.startClock).stopped = none := rfl
@[simp] theorem State.startClock_compareHit : (s.startClock).compareHit = s.compareHit := rfl
@[simp] theorem State.startClock_freeCount : (s.startClock).freeCount = s.freeCount := rfl
@[simp] theorem State.startClock_host : (s.startClock).host = s.host := rfl

/-! ### `State.putByte` -/

@[simp] theorem State.putByte_lsrReserved (ra : RealAddr) (b : Byte) : (s.putByte ra b).lsrReserved = s.lsrReserved := rfl
@[simp] theorem State.putByte_lsr8 (ra : RealAddr) (b : Byte) : (s.putByte ra b).lsr8 = s.lsr8 := rfl
@[simp] theorem State.putByte_lsr9 (ra : RealAddr) (b : Byte) : (s.putByte ra b).lsr9 = s.lsr9 := rfl
@[simp] theorem State.putByte_iar (ra : RealAddr) (b : Byte) : (s.putByte ra b).iar = s.iar := rfl
@[simp] theorem State.putByte_lsr11Op (ra : RealAddr) (b : Byte) : (s.putByte ra b).lsr11Op = s.lsr11Op := rfl
@[simp] theorem State.putByte_lsr11Q (ra : RealAddr) (b : Byte) : (s.putByte ra b).lsr11Q = s.lsr11Q := rfl
@[simp] theorem State.putByte_xr1 (ra : RealAddr) (b : Byte) : (s.putByte ra b).xr1 = s.xr1 := rfl
@[simp] theorem State.putByte_xr2 (ra : RealAddr) (b : Byte) : (s.putByte ra b).xr2 = s.xr2 := rfl
@[simp] theorem State.putByte_arr (ra : RealAddr) (b : Byte) : (s.putByte ra b).arr = s.arr := rfl
@[simp] theorem State.putByte_lcrr (ra : RealAddr) (b : Byte) : (s.putByte ra b).lcrr = s.lcrr := rfl
@[simp] theorem State.putByte_psrLsr (ra : RealAddr) (b : Byte) : (s.putByte ra b).psrLsr = s.psrLsr := rfl
@[simp] theorem State.putByte_psr (ra : RealAddr) (b : Byte) : (s.putByte ra b).psr = s.psr := rfl
@[simp] theorem State.putByte_pmr (ra : RealAddr) (b : Byte) : (s.putByte ra b).pmr = s.pmr := rfl
@[simp] theorem State.putByte_opReg (ra : RealAddr) (b : Byte) : (s.putByte ra b).opReg = s.opReg := rfl
@[simp] theorem State.putByte_qReg (ra : RealAddr) (b : Byte) : (s.putByte ra b).qReg = s.qReg := rfl
@[simp] theorem State.putByte_qBackup (ra : RealAddr) (b : Byte) : (s.putByte ra b).qBackup = s.qBackup := rfl
@[simp] theorem State.putByte_xHigh (ra : RealAddr) (b : Byte) : (s.putByte ra b).xHigh = s.xHigh := rfl
@[simp] theorem State.putByte_xLow (ra : RealAddr) (b : Byte) : (s.putByte ra b).xLow = s.xLow := rfl
@[simp] theorem State.putByte_y (ra : RealAddr) (b : Byte) : (s.putByte ra b).y = s.y := rfl
@[simp] theorem State.putByte_msar (ra : RealAddr) (b : Byte) : (s.putByte ra b).msar = s.msar := rfl
@[simp] theorem State.putByte_firstCycle (ra : RealAddr) (b : Byte) : (s.putByte ra b).firstCycle = s.firstCycle := rfl
@[simp] theorem State.putByte_complement (ra : RealAddr) (b : Byte) : (s.putByte ra b).complement = s.complement := rfl
@[simp] theorem State.putByte_recomplement (ra : RealAddr) (b : Byte) : (s.putByte ra b).recomplement = s.recomplement := rfl
@[simp] theorem State.putByte_carry (ra : RealAddr) (b : Byte) : (s.putByte ra b).carry = s.carry := rfl
@[simp] theorem State.putByte_stepMode (ra : RealAddr) (b : Byte) : (s.putByte ra b).stepMode = s.stepMode := rfl
@[simp] theorem State.putByte_clockRun (ra : RealAddr) (b : Byte) : (s.putByte ra b).clockRun = s.clockRun := rfl
@[simp] theorem State.putByte_clock (ra : RealAddr) (b : Byte) : (s.putByte ra b).clock = s.clock := rfl
@[simp] theorem State.putByte_atr (ra : RealAddr) (b : Byte) : (s.putByte ra b).atr = s.atr := rfl
@[simp] theorem State.putByte_cmr (ra : RealAddr) (b : Byte) : (s.putByte ra b).cmr = s.cmr := rfl
@[simp] theorem State.putByte_bmr (ra : RealAddr) (b : Byte) : (s.putByte ra b).bmr = s.bmr := rfl
@[simp] theorem State.putByte_ccr (ra : RealAddr) (b : Byte) : (s.putByte ra b).ccr = s.ccr := rfl
@[simp] theorem State.putByte_acr (ra : RealAddr) (b : Byte) : (s.putByte ra b).acr = s.acr := rfl
@[simp] theorem State.putByte_nonexecutable (ra : RealAddr) (b : Byte) : (s.putByte ra b).nonexecutable = s.nonexecutable := rfl
@[simp] theorem State.putByte_controlGateCheck (ra : RealAddr) (b : Byte) : (s.putByte ra b).controlGateCheck = s.controlGateCheck := rfl
@[simp] theorem State.putByte_lsrGateCheck (ra : RealAddr) (b : Byte) : (s.putByte ra b).lsrGateCheck = s.lsrGateCheck := rfl
@[simp] theorem State.putByte_storageGateCheck (ra : RealAddr) (b : Byte) : (s.putByte ra b).storageGateCheck = s.storageGateCheck := rfl
@[simp] theorem State.putByte_addressCheck (ra : RealAddr) (b : Byte) : (s.putByte ra b).addressCheck = s.addressCheck := rfl
@[simp] theorem State.putByte_sb3 (ra : RealAddr) (b : Byte) : (s.putByte ra b).sb3 = s.sb3 := rfl
@[simp] theorem State.putByte_processorError (ra : RealAddr) (b : Byte) : (s.putByte ra b).processorError = s.processorError := rfl
@[simp] theorem State.putByte_level5 (ra : RealAddr) (b : Byte) : (s.putByte ra b).level5 = s.level5 := rfl
@[simp] theorem State.putByte_mem (ra : RealAddr) (b : Byte) : (s.putByte ra b).mem = Memory.write s.mem (s.cell ra) b := rfl
@[simp] theorem State.putByte_ceAddressStop (ra : RealAddr) (b : Byte) : (s.putByte ra b).ceAddressStop = s.ceAddressStop := rfl
@[simp] theorem State.putByte_cfg (ra : RealAddr) (b : Byte) : (s.putByte ra b).cfg = s.cfg := rfl
@[simp] theorem State.putByte_stopped (ra : RealAddr) (b : Byte) : (s.putByte ra b).stopped = s.stopped := rfl
@[simp] theorem State.putByte_compareHit (ra : RealAddr) (b : Byte) : (s.putByte ra b).compareHit = s.compareHit := rfl
@[simp] theorem State.putByte_freeCount (ra : RealAddr) (b : Byte) : (s.putByte ra b).freeCount = s.freeCount := rfl
@[simp] theorem State.putByte_host (ra : RealAddr) (b : Byte) : (s.putByte ra b).host = s.host := rfl

/-! ### `State.setMsar` -/

@[simp] theorem State.setMsar_lsrReserved (la : Word) : (s.setMsar la).lsrReserved = s.lsrReserved := rfl
@[simp] theorem State.setMsar_lsr8 (la : Word) : (s.setMsar la).lsr8 = s.lsr8 := rfl
@[simp] theorem State.setMsar_lsr9 (la : Word) : (s.setMsar la).lsr9 = s.lsr9 := rfl
@[simp] theorem State.setMsar_iar (la : Word) : (s.setMsar la).iar = s.iar := rfl
@[simp] theorem State.setMsar_lsr11Op (la : Word) : (s.setMsar la).lsr11Op = s.lsr11Op := rfl
@[simp] theorem State.setMsar_lsr11Q (la : Word) : (s.setMsar la).lsr11Q = s.lsr11Q := rfl
@[simp] theorem State.setMsar_xr1 (la : Word) : (s.setMsar la).xr1 = s.xr1 := rfl
@[simp] theorem State.setMsar_xr2 (la : Word) : (s.setMsar la).xr2 = s.xr2 := rfl
@[simp] theorem State.setMsar_arr (la : Word) : (s.setMsar la).arr = s.arr := rfl
@[simp] theorem State.setMsar_lcrr (la : Word) : (s.setMsar la).lcrr = s.lcrr := rfl
@[simp] theorem State.setMsar_psrLsr (la : Word) : (s.setMsar la).psrLsr = s.psrLsr := rfl
@[simp] theorem State.setMsar_psr (la : Word) : (s.setMsar la).psr = s.psr := rfl
@[simp] theorem State.setMsar_pmr (la : Word) : (s.setMsar la).pmr = s.pmr := rfl
@[simp] theorem State.setMsar_opReg (la : Word) : (s.setMsar la).opReg = s.opReg := rfl
@[simp] theorem State.setMsar_qReg (la : Word) : (s.setMsar la).qReg = s.qReg := rfl
@[simp] theorem State.setMsar_qBackup (la : Word) : (s.setMsar la).qBackup = s.qBackup := rfl
@[simp] theorem State.setMsar_xHigh (la : Word) : (s.setMsar la).xHigh = s.xHigh := rfl
@[simp] theorem State.setMsar_xLow (la : Word) : (s.setMsar la).xLow = s.xLow := rfl
@[simp] theorem State.setMsar_y (la : Word) : (s.setMsar la).y = s.y := rfl
@[simp] theorem State.setMsar_msar (la : Word) : (s.setMsar la).msar = la := rfl
@[simp] theorem State.setMsar_firstCycle (la : Word) : (s.setMsar la).firstCycle = s.firstCycle := rfl
@[simp] theorem State.setMsar_complement (la : Word) : (s.setMsar la).complement = s.complement := rfl
@[simp] theorem State.setMsar_recomplement (la : Word) : (s.setMsar la).recomplement = s.recomplement := rfl
@[simp] theorem State.setMsar_carry (la : Word) : (s.setMsar la).carry = s.carry := rfl
@[simp] theorem State.setMsar_stepMode (la : Word) : (s.setMsar la).stepMode = s.stepMode := rfl
@[simp] theorem State.setMsar_clockRun (la : Word) : (s.setMsar la).clockRun = s.clockRun := rfl
@[simp] theorem State.setMsar_clock (la : Word) : (s.setMsar la).clock = s.clock := rfl
@[simp] theorem State.setMsar_atr (la : Word) : (s.setMsar la).atr = s.atr := rfl
@[simp] theorem State.setMsar_cmr (la : Word) : (s.setMsar la).cmr = s.cmr := rfl
@[simp] theorem State.setMsar_bmr (la : Word) : (s.setMsar la).bmr = s.bmr := rfl
@[simp] theorem State.setMsar_ccr (la : Word) : (s.setMsar la).ccr = s.ccr := rfl
@[simp] theorem State.setMsar_acr (la : Word) : (s.setMsar la).acr = s.acr := rfl
@[simp] theorem State.setMsar_nonexecutable (la : Word) : (s.setMsar la).nonexecutable = s.nonexecutable := rfl
@[simp] theorem State.setMsar_controlGateCheck (la : Word) : (s.setMsar la).controlGateCheck = s.controlGateCheck := rfl
@[simp] theorem State.setMsar_lsrGateCheck (la : Word) : (s.setMsar la).lsrGateCheck = s.lsrGateCheck := rfl
@[simp] theorem State.setMsar_storageGateCheck (la : Word) : (s.setMsar la).storageGateCheck = s.storageGateCheck := rfl
@[simp] theorem State.setMsar_addressCheck (la : Word) : (s.setMsar la).addressCheck = s.addressCheck := rfl
@[simp] theorem State.setMsar_sb3 (la : Word) : (s.setMsar la).sb3 = s.sb3 := rfl
@[simp] theorem State.setMsar_processorError (la : Word) : (s.setMsar la).processorError = s.processorError := rfl
@[simp] theorem State.setMsar_level5 (la : Word) : (s.setMsar la).level5 = s.level5 := rfl
@[simp] theorem State.setMsar_mem (la : Word) : (s.setMsar la).mem = s.mem := rfl
@[simp] theorem State.setMsar_ceAddressStop (la : Word) : (s.setMsar la).ceAddressStop = s.ceAddressStop := rfl
@[simp] theorem State.setMsar_cfg (la : Word) : (s.setMsar la).cfg = s.cfg := rfl
@[simp] theorem State.setMsar_stopped (la : Word) : (s.setMsar la).stopped = s.stopped := rfl
@[simp] theorem State.setMsar_compareHit (la : Word) : (s.setMsar la).compareHit = s.compareHit := rfl
@[simp] theorem State.setMsar_freeCount (la : Word) : (s.setMsar la).freeCount = s.freeCount := rfl
@[simp] theorem State.setMsar_host (la : Word) : (s.setMsar la).host = s.host := rfl

/-! ### `State.compare` -/

@[simp] theorem State.compare_lsrReserved (la : Word) (ra : RealAddr) : (s.compare la ra).lsrReserved = s.lsrReserved := rfl
@[simp] theorem State.compare_lsr8 (la : Word) (ra : RealAddr) : (s.compare la ra).lsr8 = s.lsr8 := rfl
@[simp] theorem State.compare_lsr9 (la : Word) (ra : RealAddr) : (s.compare la ra).lsr9 = s.lsr9 := rfl
@[simp] theorem State.compare_iar (la : Word) (ra : RealAddr) : (s.compare la ra).iar = s.iar := rfl
@[simp] theorem State.compare_lsr11Op (la : Word) (ra : RealAddr) : (s.compare la ra).lsr11Op = s.lsr11Op := rfl
@[simp] theorem State.compare_lsr11Q (la : Word) (ra : RealAddr) : (s.compare la ra).lsr11Q = s.lsr11Q := rfl
@[simp] theorem State.compare_xr1 (la : Word) (ra : RealAddr) : (s.compare la ra).xr1 = s.xr1 := rfl
@[simp] theorem State.compare_xr2 (la : Word) (ra : RealAddr) : (s.compare la ra).xr2 = s.xr2 := rfl
@[simp] theorem State.compare_arr (la : Word) (ra : RealAddr) : (s.compare la ra).arr = s.arr := rfl
@[simp] theorem State.compare_lcrr (la : Word) (ra : RealAddr) : (s.compare la ra).lcrr = s.lcrr := rfl
@[simp] theorem State.compare_psrLsr (la : Word) (ra : RealAddr) : (s.compare la ra).psrLsr = s.psrLsr := rfl
@[simp] theorem State.compare_psr (la : Word) (ra : RealAddr) : (s.compare la ra).psr = s.psr := rfl
@[simp] theorem State.compare_pmr (la : Word) (ra : RealAddr) : (s.compare la ra).pmr = s.pmr := rfl
@[simp] theorem State.compare_opReg (la : Word) (ra : RealAddr) : (s.compare la ra).opReg = s.opReg := rfl
@[simp] theorem State.compare_qReg (la : Word) (ra : RealAddr) : (s.compare la ra).qReg = s.qReg := rfl
@[simp] theorem State.compare_qBackup (la : Word) (ra : RealAddr) : (s.compare la ra).qBackup = s.qBackup := rfl
@[simp] theorem State.compare_xHigh (la : Word) (ra : RealAddr) : (s.compare la ra).xHigh = s.xHigh := rfl
@[simp] theorem State.compare_xLow (la : Word) (ra : RealAddr) : (s.compare la ra).xLow = s.xLow := rfl
@[simp] theorem State.compare_y (la : Word) (ra : RealAddr) : (s.compare la ra).y = s.y := rfl
@[simp] theorem State.compare_msar (la : Word) (ra : RealAddr) : (s.compare la ra).msar = s.msar := rfl
@[simp] theorem State.compare_firstCycle (la : Word) (ra : RealAddr) : (s.compare la ra).firstCycle = s.firstCycle := rfl
@[simp] theorem State.compare_complement (la : Word) (ra : RealAddr) : (s.compare la ra).complement = s.complement := rfl
@[simp] theorem State.compare_recomplement (la : Word) (ra : RealAddr) : (s.compare la ra).recomplement = s.recomplement := rfl
@[simp] theorem State.compare_carry (la : Word) (ra : RealAddr) : (s.compare la ra).carry = s.carry := rfl
@[simp] theorem State.compare_stepMode (la : Word) (ra : RealAddr) : (s.compare la ra).stepMode = s.stepMode := rfl
@[simp] theorem State.compare_clockRun (la : Word) (ra : RealAddr) : (s.compare la ra).clockRun = s.clockRun := rfl
@[simp] theorem State.compare_clock (la : Word) (ra : RealAddr) : (s.compare la ra).clock = s.clock := rfl
@[simp] theorem State.compare_atr (la : Word) (ra : RealAddr) : (s.compare la ra).atr = s.atr := rfl
@[simp] theorem State.compare_cmr (la : Word) (ra : RealAddr) : (s.compare la ra).cmr = s.cmr := rfl
@[simp] theorem State.compare_bmr (la : Word) (ra : RealAddr) : (s.compare la ra).bmr = s.bmr := rfl
@[simp] theorem State.compare_ccr (la : Word) (ra : RealAddr) : (s.compare la ra).ccr = s.ccr := rfl
@[simp] theorem State.compare_acr (la : Word) (ra : RealAddr) : (s.compare la ra).acr = s.acr := rfl
@[simp] theorem State.compare_nonexecutable (la : Word) (ra : RealAddr) : (s.compare la ra).nonexecutable = s.nonexecutable := rfl
@[simp] theorem State.compare_controlGateCheck (la : Word) (ra : RealAddr) : (s.compare la ra).controlGateCheck = s.controlGateCheck := rfl
@[simp] theorem State.compare_lsrGateCheck (la : Word) (ra : RealAddr) : (s.compare la ra).lsrGateCheck = s.lsrGateCheck := rfl
@[simp] theorem State.compare_storageGateCheck (la : Word) (ra : RealAddr) : (s.compare la ra).storageGateCheck = s.storageGateCheck := rfl
@[simp] theorem State.compare_addressCheck (la : Word) (ra : RealAddr) : (s.compare la ra).addressCheck = s.addressCheck := rfl
@[simp] theorem State.compare_sb3 (la : Word) (ra : RealAddr) : (s.compare la ra).sb3 = s.sb3 := rfl
@[simp] theorem State.compare_processorError (la : Word) (ra : RealAddr) : (s.compare la ra).processorError = s.processorError := rfl
@[simp] theorem State.compare_level5 (la : Word) (ra : RealAddr) : (s.compare la ra).level5 = s.level5 := rfl
@[simp] theorem State.compare_mem (la : Word) (ra : RealAddr) : (s.compare la ra).mem = s.mem := rfl
@[simp] theorem State.compare_ceAddressStop (la : Word) (ra : RealAddr) : (s.compare la ra).ceAddressStop = s.ceAddressStop := rfl
@[simp] theorem State.compare_cfg (la : Word) (ra : RealAddr) : (s.compare la ra).cfg = s.cfg := rfl
@[simp] theorem State.compare_stopped (la : Word) (ra : RealAddr) : (s.compare la ra).stopped = s.stopped := rfl
@[simp] theorem State.compare_freeCount (la : Word) (ra : RealAddr) : (s.compare la ra).freeCount = s.freeCount := rfl
@[simp] theorem State.compare_host (la : Word) (ra : RealAddr) : (s.compare la ra).host = s.host := rfl

/-! ### `State.downOp1` -/

@[simp] theorem State.downOp1_lsrReserved : (s.downOp1).lsrReserved = s.lsrReserved := rfl
@[simp] theorem State.downOp1_lsr8 : (s.downOp1).lsr8 = s.lsr8 - 1 := rfl
@[simp] theorem State.downOp1_lsr9 : (s.downOp1).lsr9 = s.lsr9 := rfl
@[simp] theorem State.downOp1_iar : (s.downOp1).iar = s.iar := rfl
@[simp] theorem State.downOp1_lsr11Op : (s.downOp1).lsr11Op = s.lsr11Op := rfl
@[simp] theorem State.downOp1_lsr11Q : (s.downOp1).lsr11Q = s.lsr11Q := rfl
@[simp] theorem State.downOp1_xr1 : (s.downOp1).xr1 = s.xr1 := rfl
@[simp] theorem State.downOp1_xr2 : (s.downOp1).xr2 = s.xr2 := rfl
@[simp] theorem State.downOp1_arr : (s.downOp1).arr = s.arr := rfl
@[simp] theorem State.downOp1_lcrr : (s.downOp1).lcrr = s.lcrr := rfl
@[simp] theorem State.downOp1_psrLsr : (s.downOp1).psrLsr = s.psrLsr := rfl
@[simp] theorem State.downOp1_psr : (s.downOp1).psr = s.psr := rfl
@[simp] theorem State.downOp1_pmr : (s.downOp1).pmr = s.pmr := rfl
@[simp] theorem State.downOp1_opReg : (s.downOp1).opReg = s.opReg := rfl
@[simp] theorem State.downOp1_qReg : (s.downOp1).qReg = s.qReg := rfl
@[simp] theorem State.downOp1_qBackup : (s.downOp1).qBackup = s.qBackup := rfl
@[simp] theorem State.downOp1_xHigh : (s.downOp1).xHigh = s.xHigh := rfl
@[simp] theorem State.downOp1_xLow : (s.downOp1).xLow = s.xLow := rfl
@[simp] theorem State.downOp1_y : (s.downOp1).y = s.y := rfl
@[simp] theorem State.downOp1_msar : (s.downOp1).msar = s.msar := rfl
@[simp] theorem State.downOp1_firstCycle : (s.downOp1).firstCycle = s.firstCycle := rfl
@[simp] theorem State.downOp1_complement : (s.downOp1).complement = s.complement := rfl
@[simp] theorem State.downOp1_recomplement : (s.downOp1).recomplement = s.recomplement := rfl
@[simp] theorem State.downOp1_carry : (s.downOp1).carry = s.carry := rfl
@[simp] theorem State.downOp1_stepMode : (s.downOp1).stepMode = s.stepMode := rfl
@[simp] theorem State.downOp1_clockRun : (s.downOp1).clockRun = s.clockRun := rfl
@[simp] theorem State.downOp1_clock : (s.downOp1).clock = s.clock := rfl
@[simp] theorem State.downOp1_atr : (s.downOp1).atr = s.atr := rfl
@[simp] theorem State.downOp1_cmr : (s.downOp1).cmr = s.cmr := rfl
@[simp] theorem State.downOp1_bmr : (s.downOp1).bmr = s.bmr := rfl
@[simp] theorem State.downOp1_ccr : (s.downOp1).ccr = s.ccr := rfl
@[simp] theorem State.downOp1_acr : (s.downOp1).acr = s.acr := rfl
@[simp] theorem State.downOp1_nonexecutable : (s.downOp1).nonexecutable = s.nonexecutable := rfl
@[simp] theorem State.downOp1_controlGateCheck : (s.downOp1).controlGateCheck = s.controlGateCheck := rfl
@[simp] theorem State.downOp1_lsrGateCheck : (s.downOp1).lsrGateCheck = s.lsrGateCheck := rfl
@[simp] theorem State.downOp1_storageGateCheck : (s.downOp1).storageGateCheck = s.storageGateCheck := rfl
@[simp] theorem State.downOp1_addressCheck : (s.downOp1).addressCheck = s.addressCheck := rfl
@[simp] theorem State.downOp1_sb3 : (s.downOp1).sb3 = s.sb3 := rfl
@[simp] theorem State.downOp1_processorError : (s.downOp1).processorError = s.processorError := rfl
@[simp] theorem State.downOp1_level5 : (s.downOp1).level5 = s.level5 := rfl
@[simp] theorem State.downOp1_mem : (s.downOp1).mem = s.mem := rfl
@[simp] theorem State.downOp1_ceAddressStop : (s.downOp1).ceAddressStop = s.ceAddressStop := rfl
@[simp] theorem State.downOp1_cfg : (s.downOp1).cfg = s.cfg := rfl
@[simp] theorem State.downOp1_stopped : (s.downOp1).stopped = s.stopped := rfl
@[simp] theorem State.downOp1_compareHit : (s.downOp1).compareHit = s.compareHit := rfl
@[simp] theorem State.downOp1_freeCount : (s.downOp1).freeCount = s.freeCount := rfl
@[simp] theorem State.downOp1_host : (s.downOp1).host = s.host := rfl

/-! ### `State.upOp1` -/

@[simp] theorem State.upOp1_lsrReserved : (s.upOp1).lsrReserved = s.lsrReserved := rfl
@[simp] theorem State.upOp1_lsr8 : (s.upOp1).lsr8 = s.lsr8 + 1 := rfl
@[simp] theorem State.upOp1_lsr9 : (s.upOp1).lsr9 = s.lsr9 := rfl
@[simp] theorem State.upOp1_iar : (s.upOp1).iar = s.iar := rfl
@[simp] theorem State.upOp1_lsr11Op : (s.upOp1).lsr11Op = s.lsr11Op := rfl
@[simp] theorem State.upOp1_lsr11Q : (s.upOp1).lsr11Q = s.lsr11Q := rfl
@[simp] theorem State.upOp1_xr1 : (s.upOp1).xr1 = s.xr1 := rfl
@[simp] theorem State.upOp1_xr2 : (s.upOp1).xr2 = s.xr2 := rfl
@[simp] theorem State.upOp1_arr : (s.upOp1).arr = s.arr := rfl
@[simp] theorem State.upOp1_lcrr : (s.upOp1).lcrr = s.lcrr := rfl
@[simp] theorem State.upOp1_psrLsr : (s.upOp1).psrLsr = s.psrLsr := rfl
@[simp] theorem State.upOp1_psr : (s.upOp1).psr = s.psr := rfl
@[simp] theorem State.upOp1_pmr : (s.upOp1).pmr = s.pmr := rfl
@[simp] theorem State.upOp1_opReg : (s.upOp1).opReg = s.opReg := rfl
@[simp] theorem State.upOp1_qReg : (s.upOp1).qReg = s.qReg := rfl
@[simp] theorem State.upOp1_qBackup : (s.upOp1).qBackup = s.qBackup := rfl
@[simp] theorem State.upOp1_xHigh : (s.upOp1).xHigh = s.xHigh := rfl
@[simp] theorem State.upOp1_xLow : (s.upOp1).xLow = s.xLow := rfl
@[simp] theorem State.upOp1_y : (s.upOp1).y = s.y := rfl
@[simp] theorem State.upOp1_msar : (s.upOp1).msar = s.msar := rfl
@[simp] theorem State.upOp1_firstCycle : (s.upOp1).firstCycle = s.firstCycle := rfl
@[simp] theorem State.upOp1_complement : (s.upOp1).complement = s.complement := rfl
@[simp] theorem State.upOp1_recomplement : (s.upOp1).recomplement = s.recomplement := rfl
@[simp] theorem State.upOp1_carry : (s.upOp1).carry = s.carry := rfl
@[simp] theorem State.upOp1_stepMode : (s.upOp1).stepMode = s.stepMode := rfl
@[simp] theorem State.upOp1_clockRun : (s.upOp1).clockRun = s.clockRun := rfl
@[simp] theorem State.upOp1_clock : (s.upOp1).clock = s.clock := rfl
@[simp] theorem State.upOp1_atr : (s.upOp1).atr = s.atr := rfl
@[simp] theorem State.upOp1_cmr : (s.upOp1).cmr = s.cmr := rfl
@[simp] theorem State.upOp1_bmr : (s.upOp1).bmr = s.bmr := rfl
@[simp] theorem State.upOp1_ccr : (s.upOp1).ccr = s.ccr := rfl
@[simp] theorem State.upOp1_acr : (s.upOp1).acr = s.acr := rfl
@[simp] theorem State.upOp1_nonexecutable : (s.upOp1).nonexecutable = s.nonexecutable := rfl
@[simp] theorem State.upOp1_controlGateCheck : (s.upOp1).controlGateCheck = s.controlGateCheck := rfl
@[simp] theorem State.upOp1_lsrGateCheck : (s.upOp1).lsrGateCheck = s.lsrGateCheck := rfl
@[simp] theorem State.upOp1_storageGateCheck : (s.upOp1).storageGateCheck = s.storageGateCheck := rfl
@[simp] theorem State.upOp1_addressCheck : (s.upOp1).addressCheck = s.addressCheck := rfl
@[simp] theorem State.upOp1_sb3 : (s.upOp1).sb3 = s.sb3 := rfl
@[simp] theorem State.upOp1_processorError : (s.upOp1).processorError = s.processorError := rfl
@[simp] theorem State.upOp1_level5 : (s.upOp1).level5 = s.level5 := rfl
@[simp] theorem State.upOp1_mem : (s.upOp1).mem = s.mem := rfl
@[simp] theorem State.upOp1_ceAddressStop : (s.upOp1).ceAddressStop = s.ceAddressStop := rfl
@[simp] theorem State.upOp1_cfg : (s.upOp1).cfg = s.cfg := rfl
@[simp] theorem State.upOp1_stopped : (s.upOp1).stopped = s.stopped := rfl
@[simp] theorem State.upOp1_compareHit : (s.upOp1).compareHit = s.compareHit := rfl
@[simp] theorem State.upOp1_freeCount : (s.upOp1).freeCount = s.freeCount := rfl
@[simp] theorem State.upOp1_host : (s.upOp1).host = s.host := rfl

/-! ### `State.downOp2` -/

@[simp] theorem State.downOp2_lsrReserved : (s.downOp2).lsrReserved = s.lsrReserved := rfl
@[simp] theorem State.downOp2_lsr8 : (s.downOp2).lsr8 = s.lsr8 := rfl
@[simp] theorem State.downOp2_lsr9 : (s.downOp2).lsr9 = s.lsr9 - 1 := rfl
@[simp] theorem State.downOp2_iar : (s.downOp2).iar = s.iar := rfl
@[simp] theorem State.downOp2_lsr11Op : (s.downOp2).lsr11Op = s.lsr11Op := rfl
@[simp] theorem State.downOp2_lsr11Q : (s.downOp2).lsr11Q = s.lsr11Q := rfl
@[simp] theorem State.downOp2_xr1 : (s.downOp2).xr1 = s.xr1 := rfl
@[simp] theorem State.downOp2_xr2 : (s.downOp2).xr2 = s.xr2 := rfl
@[simp] theorem State.downOp2_arr : (s.downOp2).arr = s.arr := rfl
@[simp] theorem State.downOp2_lcrr : (s.downOp2).lcrr = s.lcrr := rfl
@[simp] theorem State.downOp2_psrLsr : (s.downOp2).psrLsr = s.psrLsr := rfl
@[simp] theorem State.downOp2_psr : (s.downOp2).psr = s.psr := rfl
@[simp] theorem State.downOp2_pmr : (s.downOp2).pmr = s.pmr := rfl
@[simp] theorem State.downOp2_opReg : (s.downOp2).opReg = s.opReg := rfl
@[simp] theorem State.downOp2_qReg : (s.downOp2).qReg = s.qReg := rfl
@[simp] theorem State.downOp2_qBackup : (s.downOp2).qBackup = s.qBackup := rfl
@[simp] theorem State.downOp2_xHigh : (s.downOp2).xHigh = s.xHigh := rfl
@[simp] theorem State.downOp2_xLow : (s.downOp2).xLow = s.xLow := rfl
@[simp] theorem State.downOp2_y : (s.downOp2).y = s.y := rfl
@[simp] theorem State.downOp2_msar : (s.downOp2).msar = s.msar := rfl
@[simp] theorem State.downOp2_firstCycle : (s.downOp2).firstCycle = s.firstCycle := rfl
@[simp] theorem State.downOp2_complement : (s.downOp2).complement = s.complement := rfl
@[simp] theorem State.downOp2_recomplement : (s.downOp2).recomplement = s.recomplement := rfl
@[simp] theorem State.downOp2_carry : (s.downOp2).carry = s.carry := rfl
@[simp] theorem State.downOp2_stepMode : (s.downOp2).stepMode = s.stepMode := rfl
@[simp] theorem State.downOp2_clockRun : (s.downOp2).clockRun = s.clockRun := rfl
@[simp] theorem State.downOp2_clock : (s.downOp2).clock = s.clock := rfl
@[simp] theorem State.downOp2_atr : (s.downOp2).atr = s.atr := rfl
@[simp] theorem State.downOp2_cmr : (s.downOp2).cmr = s.cmr := rfl
@[simp] theorem State.downOp2_bmr : (s.downOp2).bmr = s.bmr := rfl
@[simp] theorem State.downOp2_ccr : (s.downOp2).ccr = s.ccr := rfl
@[simp] theorem State.downOp2_acr : (s.downOp2).acr = s.acr := rfl
@[simp] theorem State.downOp2_nonexecutable : (s.downOp2).nonexecutable = s.nonexecutable := rfl
@[simp] theorem State.downOp2_controlGateCheck : (s.downOp2).controlGateCheck = s.controlGateCheck := rfl
@[simp] theorem State.downOp2_lsrGateCheck : (s.downOp2).lsrGateCheck = s.lsrGateCheck := rfl
@[simp] theorem State.downOp2_storageGateCheck : (s.downOp2).storageGateCheck = s.storageGateCheck := rfl
@[simp] theorem State.downOp2_addressCheck : (s.downOp2).addressCheck = s.addressCheck := rfl
@[simp] theorem State.downOp2_sb3 : (s.downOp2).sb3 = s.sb3 := rfl
@[simp] theorem State.downOp2_processorError : (s.downOp2).processorError = s.processorError := rfl
@[simp] theorem State.downOp2_level5 : (s.downOp2).level5 = s.level5 := rfl
@[simp] theorem State.downOp2_mem : (s.downOp2).mem = s.mem := rfl
@[simp] theorem State.downOp2_ceAddressStop : (s.downOp2).ceAddressStop = s.ceAddressStop := rfl
@[simp] theorem State.downOp2_cfg : (s.downOp2).cfg = s.cfg := rfl
@[simp] theorem State.downOp2_stopped : (s.downOp2).stopped = s.stopped := rfl
@[simp] theorem State.downOp2_compareHit : (s.downOp2).compareHit = s.compareHit := rfl
@[simp] theorem State.downOp2_freeCount : (s.downOp2).freeCount = s.freeCount := rfl
@[simp] theorem State.downOp2_host : (s.downOp2).host = s.host := rfl

/-! ### `State.enter` -/

@[simp] theorem State.enter_lsrReserved (q : Byte) : (s.enter q).lsrReserved = s.lsrReserved := rfl
@[simp] theorem State.enter_lsr8 (q : Byte) : (s.enter q).lsr8 = s.lsr8 := rfl
@[simp] theorem State.enter_lsr9 (q : Byte) : (s.enter q).lsr9 = s.lsr9 := rfl
@[simp] theorem State.enter_iar (q : Byte) : (s.enter q).iar = s.iar := rfl
@[simp] theorem State.enter_lsr11Op (q : Byte) : (s.enter q).lsr11Op = s.lsr11Op := rfl
@[simp] theorem State.enter_lsr11Q (q : Byte) : (s.enter q).lsr11Q = q := rfl
@[simp] theorem State.enter_xr1 (q : Byte) : (s.enter q).xr1 = s.xr1 := rfl
@[simp] theorem State.enter_xr2 (q : Byte) : (s.enter q).xr2 = s.xr2 := rfl
@[simp] theorem State.enter_arr (q : Byte) : (s.enter q).arr = s.arr := rfl
@[simp] theorem State.enter_lcrr (q : Byte) : (s.enter q).lcrr = s.lcrr := rfl
@[simp] theorem State.enter_psrLsr (q : Byte) : (s.enter q).psrLsr = s.psrLsr := rfl
@[simp] theorem State.enter_psr (q : Byte) : (s.enter q).psr = s.psr := rfl
@[simp] theorem State.enter_pmr (q : Byte) : (s.enter q).pmr = s.pmr := rfl
@[simp] theorem State.enter_opReg (q : Byte) : (s.enter q).opReg = s.opReg := rfl
@[simp] theorem State.enter_qReg (q : Byte) : (s.enter q).qReg = q := rfl
@[simp] theorem State.enter_qBackup (q : Byte) : (s.enter q).qBackup = q := rfl
@[simp] theorem State.enter_xHigh (q : Byte) : (s.enter q).xHigh = s.xHigh := rfl
@[simp] theorem State.enter_xLow (q : Byte) : (s.enter q).xLow = s.xLow := rfl
@[simp] theorem State.enter_y (q : Byte) : (s.enter q).y = s.y := rfl
@[simp] theorem State.enter_msar (q : Byte) : (s.enter q).msar = s.msar := rfl
@[simp] theorem State.enter_firstCycle (q : Byte) : (s.enter q).firstCycle = true := rfl
@[simp] theorem State.enter_complement (q : Byte) : (s.enter q).complement = false := rfl
@[simp] theorem State.enter_recomplement (q : Byte) : (s.enter q).recomplement = false := rfl
@[simp] theorem State.enter_carry (q : Byte) : (s.enter q).carry = s.carry := rfl
@[simp] theorem State.enter_stepMode (q : Byte) : (s.enter q).stepMode = s.stepMode := rfl
@[simp] theorem State.enter_clockRun (q : Byte) : (s.enter q).clockRun = s.clockRun := rfl
@[simp] theorem State.enter_clock (q : Byte) : (s.enter q).clock = s.clock := rfl
@[simp] theorem State.enter_atr (q : Byte) : (s.enter q).atr = s.atr := rfl
@[simp] theorem State.enter_cmr (q : Byte) : (s.enter q).cmr = s.cmr := rfl
@[simp] theorem State.enter_bmr (q : Byte) : (s.enter q).bmr = s.bmr := rfl
@[simp] theorem State.enter_ccr (q : Byte) : (s.enter q).ccr = s.ccr := rfl
@[simp] theorem State.enter_acr (q : Byte) : (s.enter q).acr = s.acr := rfl
@[simp] theorem State.enter_nonexecutable (q : Byte) : (s.enter q).nonexecutable = s.nonexecutable := rfl
@[simp] theorem State.enter_controlGateCheck (q : Byte) : (s.enter q).controlGateCheck = s.controlGateCheck := rfl
@[simp] theorem State.enter_lsrGateCheck (q : Byte) : (s.enter q).lsrGateCheck = s.lsrGateCheck := rfl
@[simp] theorem State.enter_storageGateCheck (q : Byte) : (s.enter q).storageGateCheck = s.storageGateCheck := rfl
@[simp] theorem State.enter_addressCheck (q : Byte) : (s.enter q).addressCheck = s.addressCheck := rfl
@[simp] theorem State.enter_sb3 (q : Byte) : (s.enter q).sb3 = s.sb3 := rfl
@[simp] theorem State.enter_processorError (q : Byte) : (s.enter q).processorError = s.processorError := rfl
@[simp] theorem State.enter_level5 (q : Byte) : (s.enter q).level5 = s.level5 := rfl
@[simp] theorem State.enter_mem (q : Byte) : (s.enter q).mem = s.mem := rfl
@[simp] theorem State.enter_ceAddressStop (q : Byte) : (s.enter q).ceAddressStop = s.ceAddressStop := rfl
@[simp] theorem State.enter_cfg (q : Byte) : (s.enter q).cfg = s.cfg := rfl
@[simp] theorem State.enter_stopped (q : Byte) : (s.enter q).stopped = s.stopped := rfl
@[simp] theorem State.enter_compareHit (q : Byte) : (s.enter q).compareHit = s.compareHit := rfl
@[simp] theorem State.enter_freeCount (q : Byte) : (s.enter q).freeCount = s.freeCount := rfl
@[simp] theorem State.enter_host (q : Byte) : (s.enter q).host = s.host := rfl

/-! ### `State.endCycle` -/

@[simp] theorem State.endCycle_lsrReserved : (s.endCycle).lsrReserved = s.lsrReserved := rfl
@[simp] theorem State.endCycle_lsr8 : (s.endCycle).lsr8 = s.lsr8 := rfl
@[simp] theorem State.endCycle_lsr9 : (s.endCycle).lsr9 = s.lsr9 := rfl
@[simp] theorem State.endCycle_iar : (s.endCycle).iar = s.iar := rfl
@[simp] theorem State.endCycle_lsr11Op : (s.endCycle).lsr11Op = s.lsr11Op := rfl
@[simp] theorem State.endCycle_lsr11Q : (s.endCycle).lsr11Q = s.lsr11Q := rfl
@[simp] theorem State.endCycle_xr1 : (s.endCycle).xr1 = s.xr1 := rfl
@[simp] theorem State.endCycle_xr2 : (s.endCycle).xr2 = s.xr2 := rfl
@[simp] theorem State.endCycle_arr : (s.endCycle).arr = s.arr := rfl
@[simp] theorem State.endCycle_lcrr : (s.endCycle).lcrr = s.lcrr := rfl
@[simp] theorem State.endCycle_psrLsr : (s.endCycle).psrLsr = s.psrLsr := rfl
@[simp] theorem State.endCycle_psr : (s.endCycle).psr = s.psr := rfl
@[simp] theorem State.endCycle_pmr : (s.endCycle).pmr = s.pmr := rfl
@[simp] theorem State.endCycle_opReg : (s.endCycle).opReg = s.opReg := rfl
@[simp] theorem State.endCycle_qReg : (s.endCycle).qReg = s.qReg := rfl
@[simp] theorem State.endCycle_qBackup : (s.endCycle).qBackup = s.qBackup := rfl
@[simp] theorem State.endCycle_xHigh : (s.endCycle).xHigh = s.xHigh := rfl
@[simp] theorem State.endCycle_xLow : (s.endCycle).xLow = s.xLow := rfl
@[simp] theorem State.endCycle_y : (s.endCycle).y = s.y := rfl
@[simp] theorem State.endCycle_msar : (s.endCycle).msar = s.msar := rfl
@[simp] theorem State.endCycle_firstCycle : (s.endCycle).firstCycle = false := rfl
@[simp] theorem State.endCycle_complement : (s.endCycle).complement = s.complement := rfl
@[simp] theorem State.endCycle_recomplement : (s.endCycle).recomplement = s.recomplement := rfl
@[simp] theorem State.endCycle_carry : (s.endCycle).carry = s.carry := rfl
@[simp] theorem State.endCycle_stepMode : (s.endCycle).stepMode = s.stepMode := rfl
@[simp] theorem State.endCycle_clockRun : (s.endCycle).clockRun = s.clockRun := rfl
@[simp] theorem State.endCycle_clock : (s.endCycle).clock = s.clock := rfl
@[simp] theorem State.endCycle_atr : (s.endCycle).atr = s.atr := rfl
@[simp] theorem State.endCycle_cmr : (s.endCycle).cmr = s.cmr := rfl
@[simp] theorem State.endCycle_bmr : (s.endCycle).bmr = s.bmr := rfl
@[simp] theorem State.endCycle_ccr : (s.endCycle).ccr = s.ccr := rfl
@[simp] theorem State.endCycle_acr : (s.endCycle).acr = s.acr := rfl
@[simp] theorem State.endCycle_nonexecutable : (s.endCycle).nonexecutable = s.nonexecutable := rfl
@[simp] theorem State.endCycle_controlGateCheck : (s.endCycle).controlGateCheck = s.controlGateCheck := rfl
@[simp] theorem State.endCycle_lsrGateCheck : (s.endCycle).lsrGateCheck = s.lsrGateCheck := rfl
@[simp] theorem State.endCycle_storageGateCheck : (s.endCycle).storageGateCheck = s.storageGateCheck := rfl
@[simp] theorem State.endCycle_addressCheck : (s.endCycle).addressCheck = s.addressCheck := rfl
@[simp] theorem State.endCycle_sb3 : (s.endCycle).sb3 = s.sb3 := rfl
@[simp] theorem State.endCycle_processorError : (s.endCycle).processorError = s.processorError := rfl
@[simp] theorem State.endCycle_level5 : (s.endCycle).level5 = s.level5 := rfl
@[simp] theorem State.endCycle_mem : (s.endCycle).mem = s.mem := rfl
@[simp] theorem State.endCycle_ceAddressStop : (s.endCycle).ceAddressStop = s.ceAddressStop := rfl
@[simp] theorem State.endCycle_cfg : (s.endCycle).cfg = s.cfg := rfl
@[simp] theorem State.endCycle_stopped : (s.endCycle).stopped = s.stopped := rfl
@[simp] theorem State.endCycle_compareHit : (s.endCycle).compareHit = s.compareHit := rfl
@[simp] theorem State.endCycle_freeCount : (s.endCycle).freeCount = s.freeCount := rfl
@[simp] theorem State.endCycle_host : (s.endCycle).host = s.host := rfl

/-! ### `State.setCarry` -/

@[simp] theorem State.setCarry_lsrReserved (c : Bool) : (s.setCarry c).lsrReserved = s.lsrReserved := rfl
@[simp] theorem State.setCarry_lsr8 (c : Bool) : (s.setCarry c).lsr8 = s.lsr8 := rfl
@[simp] theorem State.setCarry_lsr9 (c : Bool) : (s.setCarry c).lsr9 = s.lsr9 := rfl
@[simp] theorem State.setCarry_iar (c : Bool) : (s.setCarry c).iar = s.iar := rfl
@[simp] theorem State.setCarry_lsr11Op (c : Bool) : (s.setCarry c).lsr11Op = s.lsr11Op := rfl
@[simp] theorem State.setCarry_lsr11Q (c : Bool) : (s.setCarry c).lsr11Q = s.lsr11Q := rfl
@[simp] theorem State.setCarry_xr1 (c : Bool) : (s.setCarry c).xr1 = s.xr1 := rfl
@[simp] theorem State.setCarry_xr2 (c : Bool) : (s.setCarry c).xr2 = s.xr2 := rfl
@[simp] theorem State.setCarry_arr (c : Bool) : (s.setCarry c).arr = s.arr := rfl
@[simp] theorem State.setCarry_lcrr (c : Bool) : (s.setCarry c).lcrr = s.lcrr := rfl
@[simp] theorem State.setCarry_psrLsr (c : Bool) : (s.setCarry c).psrLsr = s.psrLsr := rfl
@[simp] theorem State.setCarry_psr (c : Bool) : (s.setCarry c).psr = s.psr := rfl
@[simp] theorem State.setCarry_pmr (c : Bool) : (s.setCarry c).pmr = s.pmr := rfl
@[simp] theorem State.setCarry_opReg (c : Bool) : (s.setCarry c).opReg = s.opReg := rfl
@[simp] theorem State.setCarry_qReg (c : Bool) : (s.setCarry c).qReg = s.qReg := rfl
@[simp] theorem State.setCarry_qBackup (c : Bool) : (s.setCarry c).qBackup = s.qBackup := rfl
@[simp] theorem State.setCarry_xHigh (c : Bool) : (s.setCarry c).xHigh = s.xHigh := rfl
@[simp] theorem State.setCarry_xLow (c : Bool) : (s.setCarry c).xLow = s.xLow := rfl
@[simp] theorem State.setCarry_y (c : Bool) : (s.setCarry c).y = s.y := rfl
@[simp] theorem State.setCarry_msar (c : Bool) : (s.setCarry c).msar = s.msar := rfl
@[simp] theorem State.setCarry_firstCycle (c : Bool) : (s.setCarry c).firstCycle = s.firstCycle := rfl
@[simp] theorem State.setCarry_complement (c : Bool) : (s.setCarry c).complement = s.complement := rfl
@[simp] theorem State.setCarry_recomplement (c : Bool) : (s.setCarry c).recomplement = s.recomplement := rfl
@[simp] theorem State.setCarry_carry (c : Bool) : (s.setCarry c).carry = c := rfl
@[simp] theorem State.setCarry_stepMode (c : Bool) : (s.setCarry c).stepMode = s.stepMode := rfl
@[simp] theorem State.setCarry_clockRun (c : Bool) : (s.setCarry c).clockRun = s.clockRun := rfl
@[simp] theorem State.setCarry_clock (c : Bool) : (s.setCarry c).clock = s.clock := rfl
@[simp] theorem State.setCarry_atr (c : Bool) : (s.setCarry c).atr = s.atr := rfl
@[simp] theorem State.setCarry_cmr (c : Bool) : (s.setCarry c).cmr = s.cmr := rfl
@[simp] theorem State.setCarry_bmr (c : Bool) : (s.setCarry c).bmr = s.bmr := rfl
@[simp] theorem State.setCarry_ccr (c : Bool) : (s.setCarry c).ccr = s.ccr := rfl
@[simp] theorem State.setCarry_acr (c : Bool) : (s.setCarry c).acr = s.acr := rfl
@[simp] theorem State.setCarry_nonexecutable (c : Bool) : (s.setCarry c).nonexecutable = s.nonexecutable := rfl
@[simp] theorem State.setCarry_controlGateCheck (c : Bool) : (s.setCarry c).controlGateCheck = s.controlGateCheck := rfl
@[simp] theorem State.setCarry_lsrGateCheck (c : Bool) : (s.setCarry c).lsrGateCheck = s.lsrGateCheck := rfl
@[simp] theorem State.setCarry_storageGateCheck (c : Bool) : (s.setCarry c).storageGateCheck = s.storageGateCheck := rfl
@[simp] theorem State.setCarry_addressCheck (c : Bool) : (s.setCarry c).addressCheck = s.addressCheck := rfl
@[simp] theorem State.setCarry_sb3 (c : Bool) : (s.setCarry c).sb3 = s.sb3 := rfl
@[simp] theorem State.setCarry_processorError (c : Bool) : (s.setCarry c).processorError = s.processorError := rfl
@[simp] theorem State.setCarry_level5 (c : Bool) : (s.setCarry c).level5 = s.level5 := rfl
@[simp] theorem State.setCarry_mem (c : Bool) : (s.setCarry c).mem = s.mem := rfl
@[simp] theorem State.setCarry_ceAddressStop (c : Bool) : (s.setCarry c).ceAddressStop = s.ceAddressStop := rfl
@[simp] theorem State.setCarry_cfg (c : Bool) : (s.setCarry c).cfg = s.cfg := rfl
@[simp] theorem State.setCarry_stopped (c : Bool) : (s.setCarry c).stopped = s.stopped := rfl
@[simp] theorem State.setCarry_compareHit (c : Bool) : (s.setCarry c).compareHit = s.compareHit := rfl
@[simp] theorem State.setCarry_freeCount (c : Bool) : (s.setCarry c).freeCount = s.freeCount := rfl
@[simp] theorem State.setCarry_host (c : Bool) : (s.setCarry c).host = s.host := rfl

/-! ### `State.raiseComplement` -/

@[simp] theorem State.raiseComplement_lsrReserved (c : Bool) : (s.raiseComplement c).lsrReserved = s.lsrReserved := rfl
@[simp] theorem State.raiseComplement_lsr8 (c : Bool) : (s.raiseComplement c).lsr8 = s.lsr8 := rfl
@[simp] theorem State.raiseComplement_lsr9 (c : Bool) : (s.raiseComplement c).lsr9 = s.lsr9 := rfl
@[simp] theorem State.raiseComplement_iar (c : Bool) : (s.raiseComplement c).iar = s.iar := rfl
@[simp] theorem State.raiseComplement_lsr11Op (c : Bool) : (s.raiseComplement c).lsr11Op = s.lsr11Op := rfl
@[simp] theorem State.raiseComplement_lsr11Q (c : Bool) : (s.raiseComplement c).lsr11Q = s.lsr11Q := rfl
@[simp] theorem State.raiseComplement_xr1 (c : Bool) : (s.raiseComplement c).xr1 = s.xr1 := rfl
@[simp] theorem State.raiseComplement_xr2 (c : Bool) : (s.raiseComplement c).xr2 = s.xr2 := rfl
@[simp] theorem State.raiseComplement_arr (c : Bool) : (s.raiseComplement c).arr = s.arr := rfl
@[simp] theorem State.raiseComplement_lcrr (c : Bool) : (s.raiseComplement c).lcrr = s.lcrr := rfl
@[simp] theorem State.raiseComplement_psrLsr (c : Bool) : (s.raiseComplement c).psrLsr = s.psrLsr := rfl
@[simp] theorem State.raiseComplement_psr (c : Bool) : (s.raiseComplement c).psr = s.psr := rfl
@[simp] theorem State.raiseComplement_pmr (c : Bool) : (s.raiseComplement c).pmr = s.pmr := rfl
@[simp] theorem State.raiseComplement_opReg (c : Bool) : (s.raiseComplement c).opReg = s.opReg := rfl
@[simp] theorem State.raiseComplement_qReg (c : Bool) : (s.raiseComplement c).qReg = s.qReg := rfl
@[simp] theorem State.raiseComplement_qBackup (c : Bool) : (s.raiseComplement c).qBackup = s.qBackup := rfl
@[simp] theorem State.raiseComplement_xHigh (c : Bool) : (s.raiseComplement c).xHigh = s.xHigh := rfl
@[simp] theorem State.raiseComplement_xLow (c : Bool) : (s.raiseComplement c).xLow = s.xLow := rfl
@[simp] theorem State.raiseComplement_y (c : Bool) : (s.raiseComplement c).y = s.y := rfl
@[simp] theorem State.raiseComplement_msar (c : Bool) : (s.raiseComplement c).msar = s.msar := rfl
@[simp] theorem State.raiseComplement_firstCycle (c : Bool) : (s.raiseComplement c).firstCycle = s.firstCycle := rfl
@[simp] theorem State.raiseComplement_complement (c : Bool) : (s.raiseComplement c).complement = (s.complement || c) := rfl
@[simp] theorem State.raiseComplement_recomplement (c : Bool) : (s.raiseComplement c).recomplement = s.recomplement := rfl
@[simp] theorem State.raiseComplement_carry (c : Bool) : (s.raiseComplement c).carry = s.carry := rfl
@[simp] theorem State.raiseComplement_stepMode (c : Bool) : (s.raiseComplement c).stepMode = s.stepMode := rfl
@[simp] theorem State.raiseComplement_clockRun (c : Bool) : (s.raiseComplement c).clockRun = s.clockRun := rfl
@[simp] theorem State.raiseComplement_clock (c : Bool) : (s.raiseComplement c).clock = s.clock := rfl
@[simp] theorem State.raiseComplement_atr (c : Bool) : (s.raiseComplement c).atr = s.atr := rfl
@[simp] theorem State.raiseComplement_cmr (c : Bool) : (s.raiseComplement c).cmr = s.cmr := rfl
@[simp] theorem State.raiseComplement_bmr (c : Bool) : (s.raiseComplement c).bmr = s.bmr := rfl
@[simp] theorem State.raiseComplement_ccr (c : Bool) : (s.raiseComplement c).ccr = s.ccr := rfl
@[simp] theorem State.raiseComplement_acr (c : Bool) : (s.raiseComplement c).acr = s.acr := rfl
@[simp] theorem State.raiseComplement_nonexecutable (c : Bool) : (s.raiseComplement c).nonexecutable = s.nonexecutable := rfl
@[simp] theorem State.raiseComplement_controlGateCheck (c : Bool) : (s.raiseComplement c).controlGateCheck = s.controlGateCheck := rfl
@[simp] theorem State.raiseComplement_lsrGateCheck (c : Bool) : (s.raiseComplement c).lsrGateCheck = s.lsrGateCheck := rfl
@[simp] theorem State.raiseComplement_storageGateCheck (c : Bool) : (s.raiseComplement c).storageGateCheck = s.storageGateCheck := rfl
@[simp] theorem State.raiseComplement_addressCheck (c : Bool) : (s.raiseComplement c).addressCheck = s.addressCheck := rfl
@[simp] theorem State.raiseComplement_sb3 (c : Bool) : (s.raiseComplement c).sb3 = s.sb3 := rfl
@[simp] theorem State.raiseComplement_processorError (c : Bool) : (s.raiseComplement c).processorError = s.processorError := rfl
@[simp] theorem State.raiseComplement_level5 (c : Bool) : (s.raiseComplement c).level5 = s.level5 := rfl
@[simp] theorem State.raiseComplement_mem (c : Bool) : (s.raiseComplement c).mem = s.mem := rfl
@[simp] theorem State.raiseComplement_ceAddressStop (c : Bool) : (s.raiseComplement c).ceAddressStop = s.ceAddressStop := rfl
@[simp] theorem State.raiseComplement_cfg (c : Bool) : (s.raiseComplement c).cfg = s.cfg := rfl
@[simp] theorem State.raiseComplement_stopped (c : Bool) : (s.raiseComplement c).stopped = s.stopped := rfl
@[simp] theorem State.raiseComplement_compareHit (c : Bool) : (s.raiseComplement c).compareHit = s.compareHit := rfl
@[simp] theorem State.raiseComplement_freeCount (c : Bool) : (s.raiseComplement c).freeCount = s.freeCount := rfl
@[simp] theorem State.raiseComplement_host (c : Bool) : (s.raiseComplement c).host = s.host := rfl

/-! ### `State.setPsr` -/

@[simp] theorem State.setPsr_lsrReserved (b : Byte) : (s.setPsr b).lsrReserved = s.lsrReserved := rfl
@[simp] theorem State.setPsr_lsr8 (b : Byte) : (s.setPsr b).lsr8 = s.lsr8 := rfl
@[simp] theorem State.setPsr_lsr9 (b : Byte) : (s.setPsr b).lsr9 = s.lsr9 := rfl
@[simp] theorem State.setPsr_iar (b : Byte) : (s.setPsr b).iar = s.iar := rfl
@[simp] theorem State.setPsr_lsr11Op (b : Byte) : (s.setPsr b).lsr11Op = s.lsr11Op := rfl
@[simp] theorem State.setPsr_lsr11Q (b : Byte) : (s.setPsr b).lsr11Q = s.lsr11Q := rfl
@[simp] theorem State.setPsr_xr1 (b : Byte) : (s.setPsr b).xr1 = s.xr1 := rfl
@[simp] theorem State.setPsr_xr2 (b : Byte) : (s.setPsr b).xr2 = s.xr2 := rfl
@[simp] theorem State.setPsr_arr (b : Byte) : (s.setPsr b).arr = s.arr := rfl
@[simp] theorem State.setPsr_lcrr (b : Byte) : (s.setPsr b).lcrr = s.lcrr := rfl
@[simp] theorem State.setPsr_psrLsr (b : Byte) : (s.setPsr b).psrLsr = s.psrLsr := rfl
@[simp] theorem State.setPsr_psr (b : Byte) : (s.setPsr b).psr = b := rfl
@[simp] theorem State.setPsr_pmr (b : Byte) : (s.setPsr b).pmr = s.pmr := rfl
@[simp] theorem State.setPsr_opReg (b : Byte) : (s.setPsr b).opReg = s.opReg := rfl
@[simp] theorem State.setPsr_qReg (b : Byte) : (s.setPsr b).qReg = s.qReg := rfl
@[simp] theorem State.setPsr_qBackup (b : Byte) : (s.setPsr b).qBackup = s.qBackup := rfl
@[simp] theorem State.setPsr_xHigh (b : Byte) : (s.setPsr b).xHigh = s.xHigh := rfl
@[simp] theorem State.setPsr_xLow (b : Byte) : (s.setPsr b).xLow = s.xLow := rfl
@[simp] theorem State.setPsr_y (b : Byte) : (s.setPsr b).y = s.y := rfl
@[simp] theorem State.setPsr_msar (b : Byte) : (s.setPsr b).msar = s.msar := rfl
@[simp] theorem State.setPsr_firstCycle (b : Byte) : (s.setPsr b).firstCycle = s.firstCycle := rfl
@[simp] theorem State.setPsr_complement (b : Byte) : (s.setPsr b).complement = s.complement := rfl
@[simp] theorem State.setPsr_recomplement (b : Byte) : (s.setPsr b).recomplement = s.recomplement := rfl
@[simp] theorem State.setPsr_carry (b : Byte) : (s.setPsr b).carry = s.carry := rfl
@[simp] theorem State.setPsr_stepMode (b : Byte) : (s.setPsr b).stepMode = s.stepMode := rfl
@[simp] theorem State.setPsr_clockRun (b : Byte) : (s.setPsr b).clockRun = s.clockRun := rfl
@[simp] theorem State.setPsr_clock (b : Byte) : (s.setPsr b).clock = s.clock := rfl
@[simp] theorem State.setPsr_atr (b : Byte) : (s.setPsr b).atr = s.atr := rfl
@[simp] theorem State.setPsr_cmr (b : Byte) : (s.setPsr b).cmr = s.cmr := rfl
@[simp] theorem State.setPsr_bmr (b : Byte) : (s.setPsr b).bmr = s.bmr := rfl
@[simp] theorem State.setPsr_ccr (b : Byte) : (s.setPsr b).ccr = s.ccr := rfl
@[simp] theorem State.setPsr_acr (b : Byte) : (s.setPsr b).acr = s.acr := rfl
@[simp] theorem State.setPsr_nonexecutable (b : Byte) : (s.setPsr b).nonexecutable = s.nonexecutable := rfl
@[simp] theorem State.setPsr_controlGateCheck (b : Byte) : (s.setPsr b).controlGateCheck = s.controlGateCheck := rfl
@[simp] theorem State.setPsr_lsrGateCheck (b : Byte) : (s.setPsr b).lsrGateCheck = s.lsrGateCheck := rfl
@[simp] theorem State.setPsr_storageGateCheck (b : Byte) : (s.setPsr b).storageGateCheck = s.storageGateCheck := rfl
@[simp] theorem State.setPsr_addressCheck (b : Byte) : (s.setPsr b).addressCheck = s.addressCheck := rfl
@[simp] theorem State.setPsr_sb3 (b : Byte) : (s.setPsr b).sb3 = s.sb3 := rfl
@[simp] theorem State.setPsr_processorError (b : Byte) : (s.setPsr b).processorError = s.processorError := rfl
@[simp] theorem State.setPsr_level5 (b : Byte) : (s.setPsr b).level5 = s.level5 := rfl
@[simp] theorem State.setPsr_mem (b : Byte) : (s.setPsr b).mem = s.mem := rfl
@[simp] theorem State.setPsr_ceAddressStop (b : Byte) : (s.setPsr b).ceAddressStop = s.ceAddressStop := rfl
@[simp] theorem State.setPsr_cfg (b : Byte) : (s.setPsr b).cfg = s.cfg := rfl
@[simp] theorem State.setPsr_stopped (b : Byte) : (s.setPsr b).stopped = s.stopped := rfl
@[simp] theorem State.setPsr_compareHit (b : Byte) : (s.setPsr b).compareHit = s.compareHit := rfl
@[simp] theorem State.setPsr_freeCount (b : Byte) : (s.setPsr b).freeCount = s.freeCount := rfl
@[simp] theorem State.setPsr_host (b : Byte) : (s.setPsr b).host = s.host := rfl

/-! ### `State.setIar` -/

@[simp] theorem State.setIar_lsrReserved (a : Word) : (s.setIar a).lsrReserved = s.lsrReserved := rfl
@[simp] theorem State.setIar_lsr8 (a : Word) : (s.setIar a).lsr8 = s.lsr8 := rfl
@[simp] theorem State.setIar_lsr9 (a : Word) : (s.setIar a).lsr9 = s.lsr9 := rfl
@[simp] theorem State.setIar_iar (a : Word) : (s.setIar a).iar = a := rfl
@[simp] theorem State.setIar_lsr11Op (a : Word) : (s.setIar a).lsr11Op = s.lsr11Op := rfl
@[simp] theorem State.setIar_lsr11Q (a : Word) : (s.setIar a).lsr11Q = s.lsr11Q := rfl
@[simp] theorem State.setIar_xr1 (a : Word) : (s.setIar a).xr1 = s.xr1 := rfl
@[simp] theorem State.setIar_xr2 (a : Word) : (s.setIar a).xr2 = s.xr2 := rfl
@[simp] theorem State.setIar_arr (a : Word) : (s.setIar a).arr = s.arr := rfl
@[simp] theorem State.setIar_lcrr (a : Word) : (s.setIar a).lcrr = s.lcrr := rfl
@[simp] theorem State.setIar_psrLsr (a : Word) : (s.setIar a).psrLsr = s.psrLsr := rfl
@[simp] theorem State.setIar_psr (a : Word) : (s.setIar a).psr = s.psr := rfl
@[simp] theorem State.setIar_pmr (a : Word) : (s.setIar a).pmr = s.pmr := rfl
@[simp] theorem State.setIar_opReg (a : Word) : (s.setIar a).opReg = s.opReg := rfl
@[simp] theorem State.setIar_qReg (a : Word) : (s.setIar a).qReg = s.qReg := rfl
@[simp] theorem State.setIar_qBackup (a : Word) : (s.setIar a).qBackup = s.qBackup := rfl
@[simp] theorem State.setIar_xHigh (a : Word) : (s.setIar a).xHigh = s.xHigh := rfl
@[simp] theorem State.setIar_xLow (a : Word) : (s.setIar a).xLow = s.xLow := rfl
@[simp] theorem State.setIar_y (a : Word) : (s.setIar a).y = s.y := rfl
@[simp] theorem State.setIar_msar (a : Word) : (s.setIar a).msar = s.msar := rfl
@[simp] theorem State.setIar_firstCycle (a : Word) : (s.setIar a).firstCycle = s.firstCycle := rfl
@[simp] theorem State.setIar_complement (a : Word) : (s.setIar a).complement = s.complement := rfl
@[simp] theorem State.setIar_recomplement (a : Word) : (s.setIar a).recomplement = s.recomplement := rfl
@[simp] theorem State.setIar_carry (a : Word) : (s.setIar a).carry = s.carry := rfl
@[simp] theorem State.setIar_stepMode (a : Word) : (s.setIar a).stepMode = s.stepMode := rfl
@[simp] theorem State.setIar_clockRun (a : Word) : (s.setIar a).clockRun = s.clockRun := rfl
@[simp] theorem State.setIar_clock (a : Word) : (s.setIar a).clock = s.clock := rfl
@[simp] theorem State.setIar_atr (a : Word) : (s.setIar a).atr = s.atr := rfl
@[simp] theorem State.setIar_cmr (a : Word) : (s.setIar a).cmr = s.cmr := rfl
@[simp] theorem State.setIar_bmr (a : Word) : (s.setIar a).bmr = s.bmr := rfl
@[simp] theorem State.setIar_ccr (a : Word) : (s.setIar a).ccr = s.ccr := rfl
@[simp] theorem State.setIar_acr (a : Word) : (s.setIar a).acr = s.acr := rfl
@[simp] theorem State.setIar_nonexecutable (a : Word) : (s.setIar a).nonexecutable = s.nonexecutable := rfl
@[simp] theorem State.setIar_controlGateCheck (a : Word) : (s.setIar a).controlGateCheck = s.controlGateCheck := rfl
@[simp] theorem State.setIar_lsrGateCheck (a : Word) : (s.setIar a).lsrGateCheck = s.lsrGateCheck := rfl
@[simp] theorem State.setIar_storageGateCheck (a : Word) : (s.setIar a).storageGateCheck = s.storageGateCheck := rfl
@[simp] theorem State.setIar_addressCheck (a : Word) : (s.setIar a).addressCheck = s.addressCheck := rfl
@[simp] theorem State.setIar_sb3 (a : Word) : (s.setIar a).sb3 = s.sb3 := rfl
@[simp] theorem State.setIar_processorError (a : Word) : (s.setIar a).processorError = s.processorError := rfl
@[simp] theorem State.setIar_level5 (a : Word) : (s.setIar a).level5 = s.level5 := rfl
@[simp] theorem State.setIar_mem (a : Word) : (s.setIar a).mem = s.mem := rfl
@[simp] theorem State.setIar_ceAddressStop (a : Word) : (s.setIar a).ceAddressStop = s.ceAddressStop := rfl
@[simp] theorem State.setIar_cfg (a : Word) : (s.setIar a).cfg = s.cfg := rfl
@[simp] theorem State.setIar_stopped (a : Word) : (s.setIar a).stopped = s.stopped := rfl
@[simp] theorem State.setIar_compareHit (a : Word) : (s.setIar a).compareHit = s.compareHit := rfl
@[simp] theorem State.setIar_freeCount (a : Word) : (s.setIar a).freeCount = s.freeCount := rfl
@[simp] theorem State.setIar_host (a : Word) : (s.setIar a).host = s.host := rfl

/-! ### `State.setArr` -/

@[simp] theorem State.setArr_lsrReserved (a : Word) : (s.setArr a).lsrReserved = s.lsrReserved := rfl
@[simp] theorem State.setArr_lsr8 (a : Word) : (s.setArr a).lsr8 = s.lsr8 := rfl
@[simp] theorem State.setArr_lsr9 (a : Word) : (s.setArr a).lsr9 = s.lsr9 := rfl
@[simp] theorem State.setArr_iar (a : Word) : (s.setArr a).iar = s.iar := rfl
@[simp] theorem State.setArr_lsr11Op (a : Word) : (s.setArr a).lsr11Op = s.lsr11Op := rfl
@[simp] theorem State.setArr_lsr11Q (a : Word) : (s.setArr a).lsr11Q = s.lsr11Q := rfl
@[simp] theorem State.setArr_xr1 (a : Word) : (s.setArr a).xr1 = s.xr1 := rfl
@[simp] theorem State.setArr_xr2 (a : Word) : (s.setArr a).xr2 = s.xr2 := rfl
@[simp] theorem State.setArr_arr (a : Word) : (s.setArr a).arr = a := rfl
@[simp] theorem State.setArr_lcrr (a : Word) : (s.setArr a).lcrr = s.lcrr := rfl
@[simp] theorem State.setArr_psrLsr (a : Word) : (s.setArr a).psrLsr = s.psrLsr := rfl
@[simp] theorem State.setArr_psr (a : Word) : (s.setArr a).psr = s.psr := rfl
@[simp] theorem State.setArr_pmr (a : Word) : (s.setArr a).pmr = s.pmr := rfl
@[simp] theorem State.setArr_opReg (a : Word) : (s.setArr a).opReg = s.opReg := rfl
@[simp] theorem State.setArr_qReg (a : Word) : (s.setArr a).qReg = s.qReg := rfl
@[simp] theorem State.setArr_qBackup (a : Word) : (s.setArr a).qBackup = s.qBackup := rfl
@[simp] theorem State.setArr_xHigh (a : Word) : (s.setArr a).xHigh = s.xHigh := rfl
@[simp] theorem State.setArr_xLow (a : Word) : (s.setArr a).xLow = s.xLow := rfl
@[simp] theorem State.setArr_y (a : Word) : (s.setArr a).y = s.y := rfl
@[simp] theorem State.setArr_msar (a : Word) : (s.setArr a).msar = s.msar := rfl
@[simp] theorem State.setArr_firstCycle (a : Word) : (s.setArr a).firstCycle = s.firstCycle := rfl
@[simp] theorem State.setArr_complement (a : Word) : (s.setArr a).complement = s.complement := rfl
@[simp] theorem State.setArr_recomplement (a : Word) : (s.setArr a).recomplement = s.recomplement := rfl
@[simp] theorem State.setArr_carry (a : Word) : (s.setArr a).carry = s.carry := rfl
@[simp] theorem State.setArr_stepMode (a : Word) : (s.setArr a).stepMode = s.stepMode := rfl
@[simp] theorem State.setArr_clockRun (a : Word) : (s.setArr a).clockRun = s.clockRun := rfl
@[simp] theorem State.setArr_clock (a : Word) : (s.setArr a).clock = s.clock := rfl
@[simp] theorem State.setArr_atr (a : Word) : (s.setArr a).atr = s.atr := rfl
@[simp] theorem State.setArr_cmr (a : Word) : (s.setArr a).cmr = s.cmr := rfl
@[simp] theorem State.setArr_bmr (a : Word) : (s.setArr a).bmr = s.bmr := rfl
@[simp] theorem State.setArr_ccr (a : Word) : (s.setArr a).ccr = s.ccr := rfl
@[simp] theorem State.setArr_acr (a : Word) : (s.setArr a).acr = s.acr := rfl
@[simp] theorem State.setArr_nonexecutable (a : Word) : (s.setArr a).nonexecutable = s.nonexecutable := rfl
@[simp] theorem State.setArr_controlGateCheck (a : Word) : (s.setArr a).controlGateCheck = s.controlGateCheck := rfl
@[simp] theorem State.setArr_lsrGateCheck (a : Word) : (s.setArr a).lsrGateCheck = s.lsrGateCheck := rfl
@[simp] theorem State.setArr_storageGateCheck (a : Word) : (s.setArr a).storageGateCheck = s.storageGateCheck := rfl
@[simp] theorem State.setArr_addressCheck (a : Word) : (s.setArr a).addressCheck = s.addressCheck := rfl
@[simp] theorem State.setArr_sb3 (a : Word) : (s.setArr a).sb3 = s.sb3 := rfl
@[simp] theorem State.setArr_processorError (a : Word) : (s.setArr a).processorError = s.processorError := rfl
@[simp] theorem State.setArr_level5 (a : Word) : (s.setArr a).level5 = s.level5 := rfl
@[simp] theorem State.setArr_mem (a : Word) : (s.setArr a).mem = s.mem := rfl
@[simp] theorem State.setArr_ceAddressStop (a : Word) : (s.setArr a).ceAddressStop = s.ceAddressStop := rfl
@[simp] theorem State.setArr_cfg (a : Word) : (s.setArr a).cfg = s.cfg := rfl
@[simp] theorem State.setArr_stopped (a : Word) : (s.setArr a).stopped = s.stopped := rfl
@[simp] theorem State.setArr_compareHit (a : Word) : (s.setArr a).compareHit = s.compareHit := rfl
@[simp] theorem State.setArr_freeCount (a : Word) : (s.setArr a).freeCount = s.freeCount := rfl
@[simp] theorem State.setArr_host (a : Word) : (s.setArr a).host = s.host := rfl

/-! ### `State.setPmr` -/

@[simp] theorem State.setPmr_lsrReserved (b : Byte) : (s.setPmr b).lsrReserved = s.lsrReserved := rfl
@[simp] theorem State.setPmr_lsr8 (b : Byte) : (s.setPmr b).lsr8 = s.lsr8 := rfl
@[simp] theorem State.setPmr_lsr9 (b : Byte) : (s.setPmr b).lsr9 = s.lsr9 := rfl
@[simp] theorem State.setPmr_iar (b : Byte) : (s.setPmr b).iar = s.iar := rfl
@[simp] theorem State.setPmr_lsr11Op (b : Byte) : (s.setPmr b).lsr11Op = s.lsr11Op := rfl
@[simp] theorem State.setPmr_lsr11Q (b : Byte) : (s.setPmr b).lsr11Q = s.lsr11Q := rfl
@[simp] theorem State.setPmr_xr1 (b : Byte) : (s.setPmr b).xr1 = s.xr1 := rfl
@[simp] theorem State.setPmr_xr2 (b : Byte) : (s.setPmr b).xr2 = s.xr2 := rfl
@[simp] theorem State.setPmr_arr (b : Byte) : (s.setPmr b).arr = s.arr := rfl
@[simp] theorem State.setPmr_lcrr (b : Byte) : (s.setPmr b).lcrr = s.lcrr := rfl
@[simp] theorem State.setPmr_psrLsr (b : Byte) : (s.setPmr b).psrLsr = s.psrLsr := rfl
@[simp] theorem State.setPmr_psr (b : Byte) : (s.setPmr b).psr = s.psr := rfl
@[simp] theorem State.setPmr_pmr (b : Byte) : (s.setPmr b).pmr = b &&& 0x8F := rfl
@[simp] theorem State.setPmr_opReg (b : Byte) : (s.setPmr b).opReg = s.opReg := rfl
@[simp] theorem State.setPmr_qReg (b : Byte) : (s.setPmr b).qReg = s.qReg := rfl
@[simp] theorem State.setPmr_qBackup (b : Byte) : (s.setPmr b).qBackup = s.qBackup := rfl
@[simp] theorem State.setPmr_xHigh (b : Byte) : (s.setPmr b).xHigh = s.xHigh := rfl
@[simp] theorem State.setPmr_xLow (b : Byte) : (s.setPmr b).xLow = s.xLow := rfl
@[simp] theorem State.setPmr_y (b : Byte) : (s.setPmr b).y = s.y := rfl
@[simp] theorem State.setPmr_msar (b : Byte) : (s.setPmr b).msar = s.msar := rfl
@[simp] theorem State.setPmr_firstCycle (b : Byte) : (s.setPmr b).firstCycle = s.firstCycle := rfl
@[simp] theorem State.setPmr_complement (b : Byte) : (s.setPmr b).complement = s.complement := rfl
@[simp] theorem State.setPmr_recomplement (b : Byte) : (s.setPmr b).recomplement = s.recomplement := rfl
@[simp] theorem State.setPmr_carry (b : Byte) : (s.setPmr b).carry = s.carry := rfl
@[simp] theorem State.setPmr_stepMode (b : Byte) : (s.setPmr b).stepMode = s.stepMode := rfl
@[simp] theorem State.setPmr_clockRun (b : Byte) : (s.setPmr b).clockRun = s.clockRun := rfl
@[simp] theorem State.setPmr_clock (b : Byte) : (s.setPmr b).clock = s.clock := rfl
@[simp] theorem State.setPmr_atr (b : Byte) : (s.setPmr b).atr = s.atr := rfl
@[simp] theorem State.setPmr_cmr (b : Byte) : (s.setPmr b).cmr = s.cmr := rfl
@[simp] theorem State.setPmr_bmr (b : Byte) : (s.setPmr b).bmr = s.bmr := rfl
@[simp] theorem State.setPmr_ccr (b : Byte) : (s.setPmr b).ccr = s.ccr := rfl
@[simp] theorem State.setPmr_acr (b : Byte) : (s.setPmr b).acr = s.acr := rfl
@[simp] theorem State.setPmr_nonexecutable (b : Byte) : (s.setPmr b).nonexecutable = s.nonexecutable := rfl
@[simp] theorem State.setPmr_controlGateCheck (b : Byte) : (s.setPmr b).controlGateCheck = s.controlGateCheck := rfl
@[simp] theorem State.setPmr_lsrGateCheck (b : Byte) : (s.setPmr b).lsrGateCheck = s.lsrGateCheck := rfl
@[simp] theorem State.setPmr_storageGateCheck (b : Byte) : (s.setPmr b).storageGateCheck = s.storageGateCheck := rfl
@[simp] theorem State.setPmr_addressCheck (b : Byte) : (s.setPmr b).addressCheck = s.addressCheck := rfl
@[simp] theorem State.setPmr_sb3 (b : Byte) : (s.setPmr b).sb3 = s.sb3 := rfl
@[simp] theorem State.setPmr_processorError (b : Byte) : (s.setPmr b).processorError = s.processorError := rfl
@[simp] theorem State.setPmr_level5 (b : Byte) : (s.setPmr b).level5 = s.level5 := rfl
@[simp] theorem State.setPmr_mem (b : Byte) : (s.setPmr b).mem = s.mem := rfl
@[simp] theorem State.setPmr_ceAddressStop (b : Byte) : (s.setPmr b).ceAddressStop = s.ceAddressStop := rfl
@[simp] theorem State.setPmr_cfg (b : Byte) : (s.setPmr b).cfg = s.cfg := rfl
@[simp] theorem State.setPmr_stopped (b : Byte) : (s.setPmr b).stopped = s.stopped := rfl
@[simp] theorem State.setPmr_compareHit (b : Byte) : (s.setPmr b).compareHit = s.compareHit := rfl
@[simp] theorem State.setPmr_freeCount (b : Byte) : (s.setPmr b).freeCount = s.freeCount := rfl
@[simp] theorem State.setPmr_host (b : Byte) : (s.setPmr b).host = s.host := rfl

/-! ### `State.enterTwo` -/

@[simp] theorem State.enterTwo_lsrReserved (q : Byte) (o1 o2 : Operand) : (s.enterTwo q o1 o2).lsrReserved = s.lsrReserved := rfl
@[simp] theorem State.enterTwo_lsr8 (q : Byte) (o1 o2 : Operand) : (s.enterTwo q o1 o2).lsr8 = s.address o1 := rfl
@[simp] theorem State.enterTwo_lsr9 (q : Byte) (o1 o2 : Operand) : (s.enterTwo q o1 o2).lsr9 = s.address o2 := rfl
@[simp] theorem State.enterTwo_iar (q : Byte) (o1 o2 : Operand) : (s.enterTwo q o1 o2).iar = s.iar := rfl
@[simp] theorem State.enterTwo_lsr11Op (q : Byte) (o1 o2 : Operand) : (s.enterTwo q o1 o2).lsr11Op = s.lsr11Op := rfl
@[simp] theorem State.enterTwo_lsr11Q (q : Byte) (o1 o2 : Operand) : (s.enterTwo q o1 o2).lsr11Q = q := rfl
@[simp] theorem State.enterTwo_xr1 (q : Byte) (o1 o2 : Operand) : (s.enterTwo q o1 o2).xr1 = s.xr1 := rfl
@[simp] theorem State.enterTwo_xr2 (q : Byte) (o1 o2 : Operand) : (s.enterTwo q o1 o2).xr2 = s.xr2 := rfl
@[simp] theorem State.enterTwo_arr (q : Byte) (o1 o2 : Operand) : (s.enterTwo q o1 o2).arr = s.arr := rfl
@[simp] theorem State.enterTwo_lcrr (q : Byte) (o1 o2 : Operand) : (s.enterTwo q o1 o2).lcrr = s.lcrr := rfl
@[simp] theorem State.enterTwo_psrLsr (q : Byte) (o1 o2 : Operand) : (s.enterTwo q o1 o2).psrLsr = s.psrLsr := rfl
@[simp] theorem State.enterTwo_psr (q : Byte) (o1 o2 : Operand) : (s.enterTwo q o1 o2).psr = s.psr := rfl
@[simp] theorem State.enterTwo_pmr (q : Byte) (o1 o2 : Operand) : (s.enterTwo q o1 o2).pmr = s.pmr := rfl
@[simp] theorem State.enterTwo_opReg (q : Byte) (o1 o2 : Operand) : (s.enterTwo q o1 o2).opReg = s.opReg := rfl
@[simp] theorem State.enterTwo_qReg (q : Byte) (o1 o2 : Operand) : (s.enterTwo q o1 o2).qReg = q := rfl
@[simp] theorem State.enterTwo_qBackup (q : Byte) (o1 o2 : Operand) : (s.enterTwo q o1 o2).qBackup = q := rfl
@[simp] theorem State.enterTwo_xHigh (q : Byte) (o1 o2 : Operand) : (s.enterTwo q o1 o2).xHigh = s.xHigh := rfl
@[simp] theorem State.enterTwo_xLow (q : Byte) (o1 o2 : Operand) : (s.enterTwo q o1 o2).xLow = s.xLow := rfl
@[simp] theorem State.enterTwo_y (q : Byte) (o1 o2 : Operand) : (s.enterTwo q o1 o2).y = s.y := rfl
@[simp] theorem State.enterTwo_msar (q : Byte) (o1 o2 : Operand) : (s.enterTwo q o1 o2).msar = s.msar := rfl
@[simp] theorem State.enterTwo_firstCycle (q : Byte) (o1 o2 : Operand) : (s.enterTwo q o1 o2).firstCycle = true := rfl
@[simp] theorem State.enterTwo_carry (q : Byte) (o1 o2 : Operand) : (s.enterTwo q o1 o2).carry = s.carry := rfl
@[simp] theorem State.enterTwo_stepMode (q : Byte) (o1 o2 : Operand) : (s.enterTwo q o1 o2).stepMode = s.stepMode := rfl
@[simp] theorem State.enterTwo_clockRun (q : Byte) (o1 o2 : Operand) : (s.enterTwo q o1 o2).clockRun = s.clockRun := rfl
@[simp] theorem State.enterTwo_clock (q : Byte) (o1 o2 : Operand) : (s.enterTwo q o1 o2).clock = s.clock := rfl
@[simp] theorem State.enterTwo_atr (q : Byte) (o1 o2 : Operand) : (s.enterTwo q o1 o2).atr = s.atr := rfl
@[simp] theorem State.enterTwo_cmr (q : Byte) (o1 o2 : Operand) : (s.enterTwo q o1 o2).cmr = s.cmr := rfl
@[simp] theorem State.enterTwo_bmr (q : Byte) (o1 o2 : Operand) : (s.enterTwo q o1 o2).bmr = s.bmr := rfl
@[simp] theorem State.enterTwo_ccr (q : Byte) (o1 o2 : Operand) : (s.enterTwo q o1 o2).ccr = s.ccr := rfl
@[simp] theorem State.enterTwo_acr (q : Byte) (o1 o2 : Operand) : (s.enterTwo q o1 o2).acr = s.acr := rfl
@[simp] theorem State.enterTwo_nonexecutable (q : Byte) (o1 o2 : Operand) : (s.enterTwo q o1 o2).nonexecutable = s.nonexecutable := rfl
@[simp] theorem State.enterTwo_controlGateCheck (q : Byte) (o1 o2 : Operand) : (s.enterTwo q o1 o2).controlGateCheck = s.controlGateCheck := rfl
@[simp] theorem State.enterTwo_lsrGateCheck (q : Byte) (o1 o2 : Operand) : (s.enterTwo q o1 o2).lsrGateCheck = s.lsrGateCheck := rfl
@[simp] theorem State.enterTwo_storageGateCheck (q : Byte) (o1 o2 : Operand) : (s.enterTwo q o1 o2).storageGateCheck = s.storageGateCheck := rfl
@[simp] theorem State.enterTwo_addressCheck (q : Byte) (o1 o2 : Operand) : (s.enterTwo q o1 o2).addressCheck = s.addressCheck := rfl
@[simp] theorem State.enterTwo_sb3 (q : Byte) (o1 o2 : Operand) : (s.enterTwo q o1 o2).sb3 = s.sb3 := rfl
@[simp] theorem State.enterTwo_processorError (q : Byte) (o1 o2 : Operand) : (s.enterTwo q o1 o2).processorError = s.processorError := rfl
@[simp] theorem State.enterTwo_level5 (q : Byte) (o1 o2 : Operand) : (s.enterTwo q o1 o2).level5 = s.level5 := rfl
@[simp] theorem State.enterTwo_mem (q : Byte) (o1 o2 : Operand) : (s.enterTwo q o1 o2).mem = s.mem := rfl
@[simp] theorem State.enterTwo_ceAddressStop (q : Byte) (o1 o2 : Operand) : (s.enterTwo q o1 o2).ceAddressStop = s.ceAddressStop := rfl
@[simp] theorem State.enterTwo_cfg (q : Byte) (o1 o2 : Operand) : (s.enterTwo q o1 o2).cfg = s.cfg := rfl
@[simp] theorem State.enterTwo_stopped (q : Byte) (o1 o2 : Operand) : (s.enterTwo q o1 o2).stopped = s.stopped := rfl
@[simp] theorem State.enterTwo_compareHit (q : Byte) (o1 o2 : Operand) : (s.enterTwo q o1 o2).compareHit = s.compareHit := rfl
@[simp] theorem State.enterTwo_freeCount (q : Byte) (o1 o2 : Operand) : (s.enterTwo q o1 o2).freeCount = s.freeCount := rfl
@[simp] theorem State.enterTwo_host (q : Byte) (o1 o2 : Operand) : (s.enterTwo q o1 o2).host = s.host := rfl

/-! ### `State.enterOne` -/

@[simp] theorem State.enterOne_lsrReserved (q : Byte) (o : Operand) : (s.enterOne q o).lsrReserved = s.lsrReserved := rfl
@[simp] theorem State.enterOne_lsr8 (q : Byte) (o : Operand) : (s.enterOne q o).lsr8 = s.address o := rfl
@[simp] theorem State.enterOne_lsr9 (q : Byte) (o : Operand) : (s.enterOne q o).lsr9 = s.lsr9 := rfl
@[simp] theorem State.enterOne_iar (q : Byte) (o : Operand) : (s.enterOne q o).iar = s.iar := rfl
@[simp] theorem State.enterOne_lsr11Op (q : Byte) (o : Operand) : (s.enterOne q o).lsr11Op = s.lsr11Op := rfl
@[simp] theorem State.enterOne_lsr11Q (q : Byte) (o : Operand) : (s.enterOne q o).lsr11Q = q := rfl
@[simp] theorem State.enterOne_xr1 (q : Byte) (o : Operand) : (s.enterOne q o).xr1 = s.xr1 := rfl
@[simp] theorem State.enterOne_xr2 (q : Byte) (o : Operand) : (s.enterOne q o).xr2 = s.xr2 := rfl
@[simp] theorem State.enterOne_arr (q : Byte) (o : Operand) : (s.enterOne q o).arr = s.arr := rfl
@[simp] theorem State.enterOne_lcrr (q : Byte) (o : Operand) : (s.enterOne q o).lcrr = s.lcrr := rfl
@[simp] theorem State.enterOne_psrLsr (q : Byte) (o : Operand) : (s.enterOne q o).psrLsr = s.psrLsr := rfl
@[simp] theorem State.enterOne_psr (q : Byte) (o : Operand) : (s.enterOne q o).psr = s.psr := rfl
@[simp] theorem State.enterOne_pmr (q : Byte) (o : Operand) : (s.enterOne q o).pmr = s.pmr := rfl
@[simp] theorem State.enterOne_opReg (q : Byte) (o : Operand) : (s.enterOne q o).opReg = s.opReg := rfl
@[simp] theorem State.enterOne_qReg (q : Byte) (o : Operand) : (s.enterOne q o).qReg = q := rfl
@[simp] theorem State.enterOne_qBackup (q : Byte) (o : Operand) : (s.enterOne q o).qBackup = q := rfl
@[simp] theorem State.enterOne_xHigh (q : Byte) (o : Operand) : (s.enterOne q o).xHigh = s.xHigh := rfl
@[simp] theorem State.enterOne_xLow (q : Byte) (o : Operand) : (s.enterOne q o).xLow = s.xLow := rfl
@[simp] theorem State.enterOne_y (q : Byte) (o : Operand) : (s.enterOne q o).y = s.y := rfl
@[simp] theorem State.enterOne_msar (q : Byte) (o : Operand) : (s.enterOne q o).msar = s.msar := rfl
@[simp] theorem State.enterOne_firstCycle (q : Byte) (o : Operand) : (s.enterOne q o).firstCycle = true := rfl
@[simp] theorem State.enterOne_carry (q : Byte) (o : Operand) : (s.enterOne q o).carry = s.carry := rfl
@[simp] theorem State.enterOne_stepMode (q : Byte) (o : Operand) : (s.enterOne q o).stepMode = s.stepMode := rfl
@[simp] theorem State.enterOne_clockRun (q : Byte) (o : Operand) : (s.enterOne q o).clockRun = s.clockRun := rfl
@[simp] theorem State.enterOne_clock (q : Byte) (o : Operand) : (s.enterOne q o).clock = s.clock := rfl
@[simp] theorem State.enterOne_atr (q : Byte) (o : Operand) : (s.enterOne q o).atr = s.atr := rfl
@[simp] theorem State.enterOne_cmr (q : Byte) (o : Operand) : (s.enterOne q o).cmr = s.cmr := rfl
@[simp] theorem State.enterOne_bmr (q : Byte) (o : Operand) : (s.enterOne q o).bmr = s.bmr := rfl
@[simp] theorem State.enterOne_ccr (q : Byte) (o : Operand) : (s.enterOne q o).ccr = s.ccr := rfl
@[simp] theorem State.enterOne_acr (q : Byte) (o : Operand) : (s.enterOne q o).acr = s.acr := rfl
@[simp] theorem State.enterOne_nonexecutable (q : Byte) (o : Operand) : (s.enterOne q o).nonexecutable = s.nonexecutable := rfl
@[simp] theorem State.enterOne_controlGateCheck (q : Byte) (o : Operand) : (s.enterOne q o).controlGateCheck = s.controlGateCheck := rfl
@[simp] theorem State.enterOne_lsrGateCheck (q : Byte) (o : Operand) : (s.enterOne q o).lsrGateCheck = s.lsrGateCheck := rfl
@[simp] theorem State.enterOne_storageGateCheck (q : Byte) (o : Operand) : (s.enterOne q o).storageGateCheck = s.storageGateCheck := rfl
@[simp] theorem State.enterOne_addressCheck (q : Byte) (o : Operand) : (s.enterOne q o).addressCheck = s.addressCheck := rfl
@[simp] theorem State.enterOne_sb3 (q : Byte) (o : Operand) : (s.enterOne q o).sb3 = s.sb3 := rfl
@[simp] theorem State.enterOne_processorError (q : Byte) (o : Operand) : (s.enterOne q o).processorError = s.processorError := rfl
@[simp] theorem State.enterOne_level5 (q : Byte) (o : Operand) : (s.enterOne q o).level5 = s.level5 := rfl
@[simp] theorem State.enterOne_mem (q : Byte) (o : Operand) : (s.enterOne q o).mem = s.mem := rfl
@[simp] theorem State.enterOne_ceAddressStop (q : Byte) (o : Operand) : (s.enterOne q o).ceAddressStop = s.ceAddressStop := rfl
@[simp] theorem State.enterOne_cfg (q : Byte) (o : Operand) : (s.enterOne q o).cfg = s.cfg := rfl
@[simp] theorem State.enterOne_stopped (q : Byte) (o : Operand) : (s.enterOne q o).stopped = s.stopped := rfl
@[simp] theorem State.enterOne_compareHit (q : Byte) (o : Operand) : (s.enterOne q o).compareHit = s.compareHit := rfl
@[simp] theorem State.enterOne_freeCount (q : Byte) (o : Operand) : (s.enterOne q o).freeCount = s.freeCount := rfl
@[simp] theorem State.enterOne_host (q : Byte) (o : Operand) : (s.enterOne q o).host = s.host := rfl

/-! ### `State.enterDecimal` -/

@[simp] theorem State.enterDecimal_lsrReserved (q : Byte) (o1 o2 : Operand) : (s.enterDecimal q o1 o2).lsrReserved = s.lsrReserved := rfl
@[simp] theorem State.enterDecimal_lsr8 (q : Byte) (o1 o2 : Operand) : (s.enterDecimal q o1 o2).lsr8 = s.address o1 := rfl
@[simp] theorem State.enterDecimal_lsr9 (q : Byte) (o1 o2 : Operand) : (s.enterDecimal q o1 o2).lsr9 = s.address o2 := rfl
@[simp] theorem State.enterDecimal_iar (q : Byte) (o1 o2 : Operand) : (s.enterDecimal q o1 o2).iar = s.iar := rfl
@[simp] theorem State.enterDecimal_lsr11Op (q : Byte) (o1 o2 : Operand) : (s.enterDecimal q o1 o2).lsr11Op = s.lsr11Op := rfl
@[simp] theorem State.enterDecimal_lsr11Q (q : Byte) (o1 o2 : Operand) : (s.enterDecimal q o1 o2).lsr11Q = q := rfl
@[simp] theorem State.enterDecimal_xr1 (q : Byte) (o1 o2 : Operand) : (s.enterDecimal q o1 o2).xr1 = s.xr1 := rfl
@[simp] theorem State.enterDecimal_xr2 (q : Byte) (o1 o2 : Operand) : (s.enterDecimal q o1 o2).xr2 = s.xr2 := rfl
@[simp] theorem State.enterDecimal_arr (q : Byte) (o1 o2 : Operand) : (s.enterDecimal q o1 o2).arr = s.address o1 := rfl
@[simp] theorem State.enterDecimal_lcrr (q : Byte) (o1 o2 : Operand) : (s.enterDecimal q o1 o2).lcrr = s.lcrr := rfl
@[simp] theorem State.enterDecimal_psrLsr (q : Byte) (o1 o2 : Operand) : (s.enterDecimal q o1 o2).psrLsr = s.psrLsr := rfl
@[simp] theorem State.enterDecimal_psr (q : Byte) (o1 o2 : Operand) : (s.enterDecimal q o1 o2).psr = s.psr := rfl
@[simp] theorem State.enterDecimal_pmr (q : Byte) (o1 o2 : Operand) : (s.enterDecimal q o1 o2).pmr = s.pmr := rfl
@[simp] theorem State.enterDecimal_opReg (q : Byte) (o1 o2 : Operand) : (s.enterDecimal q o1 o2).opReg = s.opReg := rfl
@[simp] theorem State.enterDecimal_qReg (q : Byte) (o1 o2 : Operand) : (s.enterDecimal q o1 o2).qReg = q := rfl
@[simp] theorem State.enterDecimal_qBackup (q : Byte) (o1 o2 : Operand) : (s.enterDecimal q o1 o2).qBackup = q := rfl
@[simp] theorem State.enterDecimal_xHigh (q : Byte) (o1 o2 : Operand) : (s.enterDecimal q o1 o2).xHigh = s.xHigh := rfl
@[simp] theorem State.enterDecimal_xLow (q : Byte) (o1 o2 : Operand) : (s.enterDecimal q o1 o2).xLow = s.xLow := rfl
@[simp] theorem State.enterDecimal_y (q : Byte) (o1 o2 : Operand) : (s.enterDecimal q o1 o2).y = s.y := rfl
@[simp] theorem State.enterDecimal_msar (q : Byte) (o1 o2 : Operand) : (s.enterDecimal q o1 o2).msar = s.msar := rfl
@[simp] theorem State.enterDecimal_firstCycle (q : Byte) (o1 o2 : Operand) : (s.enterDecimal q o1 o2).firstCycle = true := rfl
@[simp] theorem State.enterDecimal_carry (q : Byte) (o1 o2 : Operand) : (s.enterDecimal q o1 o2).carry = false := rfl
@[simp] theorem State.enterDecimal_stepMode (q : Byte) (o1 o2 : Operand) : (s.enterDecimal q o1 o2).stepMode = s.stepMode := rfl
@[simp] theorem State.enterDecimal_clockRun (q : Byte) (o1 o2 : Operand) : (s.enterDecimal q o1 o2).clockRun = s.clockRun := rfl
@[simp] theorem State.enterDecimal_clock (q : Byte) (o1 o2 : Operand) : (s.enterDecimal q o1 o2).clock = s.clock := rfl
@[simp] theorem State.enterDecimal_atr (q : Byte) (o1 o2 : Operand) : (s.enterDecimal q o1 o2).atr = s.atr := rfl
@[simp] theorem State.enterDecimal_cmr (q : Byte) (o1 o2 : Operand) : (s.enterDecimal q o1 o2).cmr = s.cmr := rfl
@[simp] theorem State.enterDecimal_bmr (q : Byte) (o1 o2 : Operand) : (s.enterDecimal q o1 o2).bmr = s.bmr := rfl
@[simp] theorem State.enterDecimal_ccr (q : Byte) (o1 o2 : Operand) : (s.enterDecimal q o1 o2).ccr = s.ccr := rfl
@[simp] theorem State.enterDecimal_acr (q : Byte) (o1 o2 : Operand) : (s.enterDecimal q o1 o2).acr = s.acr := rfl
@[simp] theorem State.enterDecimal_nonexecutable (q : Byte) (o1 o2 : Operand) : (s.enterDecimal q o1 o2).nonexecutable = s.nonexecutable := rfl
@[simp] theorem State.enterDecimal_controlGateCheck (q : Byte) (o1 o2 : Operand) : (s.enterDecimal q o1 o2).controlGateCheck = s.controlGateCheck := rfl
@[simp] theorem State.enterDecimal_lsrGateCheck (q : Byte) (o1 o2 : Operand) : (s.enterDecimal q o1 o2).lsrGateCheck = s.lsrGateCheck := rfl
@[simp] theorem State.enterDecimal_storageGateCheck (q : Byte) (o1 o2 : Operand) : (s.enterDecimal q o1 o2).storageGateCheck = s.storageGateCheck := rfl
@[simp] theorem State.enterDecimal_addressCheck (q : Byte) (o1 o2 : Operand) : (s.enterDecimal q o1 o2).addressCheck = s.addressCheck := rfl
@[simp] theorem State.enterDecimal_sb3 (q : Byte) (o1 o2 : Operand) : (s.enterDecimal q o1 o2).sb3 = s.sb3 := rfl
@[simp] theorem State.enterDecimal_processorError (q : Byte) (o1 o2 : Operand) : (s.enterDecimal q o1 o2).processorError = s.processorError := rfl
@[simp] theorem State.enterDecimal_level5 (q : Byte) (o1 o2 : Operand) : (s.enterDecimal q o1 o2).level5 = s.level5 := rfl
@[simp] theorem State.enterDecimal_mem (q : Byte) (o1 o2 : Operand) : (s.enterDecimal q o1 o2).mem = s.mem := rfl
@[simp] theorem State.enterDecimal_ceAddressStop (q : Byte) (o1 o2 : Operand) : (s.enterDecimal q o1 o2).ceAddressStop = s.ceAddressStop := rfl
@[simp] theorem State.enterDecimal_cfg (q : Byte) (o1 o2 : Operand) : (s.enterDecimal q o1 o2).cfg = s.cfg := rfl
@[simp] theorem State.enterDecimal_stopped (q : Byte) (o1 o2 : Operand) : (s.enterDecimal q o1 o2).stopped = s.stopped := rfl
@[simp] theorem State.enterDecimal_compareHit (q : Byte) (o1 o2 : Operand) : (s.enterDecimal q o1 o2).compareHit = s.compareHit := rfl
@[simp] theorem State.enterDecimal_freeCount (q : Byte) (o1 o2 : Operand) : (s.enterDecimal q o1 o2).freeCount = s.freeCount := rfl
@[simp] theorem State.enterDecimal_host (q : Byte) (o1 o2 : Operand) : (s.enterDecimal q o1 o2).host = s.host := rfl

/-! ### `State.startRecomplement` -/

@[simp] theorem State.startRecomplement_lsrReserved : (s.startRecomplement).lsrReserved = s.lsrReserved := rfl
@[simp] theorem State.startRecomplement_lsr8 : (s.startRecomplement).lsr8 = s.lsr8 := rfl
@[simp] theorem State.startRecomplement_lsr9 : (s.startRecomplement).lsr9 = s.lsr9 := rfl
@[simp] theorem State.startRecomplement_iar : (s.startRecomplement).iar = s.iar := rfl
@[simp] theorem State.startRecomplement_lsr11Op : (s.startRecomplement).lsr11Op = s.lsr11Op := rfl
@[simp] theorem State.startRecomplement_lsr11Q : (s.startRecomplement).lsr11Q = s.lsr11Q := rfl
@[simp] theorem State.startRecomplement_xr1 : (s.startRecomplement).xr1 = s.xr1 := rfl
@[simp] theorem State.startRecomplement_xr2 : (s.startRecomplement).xr2 = s.xr2 := rfl
@[simp] theorem State.startRecomplement_arr : (s.startRecomplement).arr = s.arr := rfl
@[simp] theorem State.startRecomplement_lcrr : (s.startRecomplement).lcrr = s.lcrr := rfl
@[simp] theorem State.startRecomplement_psrLsr : (s.startRecomplement).psrLsr = s.psrLsr := rfl
@[simp] theorem State.startRecomplement_psr : (s.startRecomplement).psr = s.psr := rfl
@[simp] theorem State.startRecomplement_pmr : (s.startRecomplement).pmr = s.pmr := rfl
@[simp] theorem State.startRecomplement_opReg : (s.startRecomplement).opReg = s.opReg := rfl
@[simp] theorem State.startRecomplement_qReg : (s.startRecomplement).qReg = s.qBackup := rfl
@[simp] theorem State.startRecomplement_qBackup : (s.startRecomplement).qBackup = s.qBackup := rfl
@[simp] theorem State.startRecomplement_xHigh : (s.startRecomplement).xHigh = s.xHigh := rfl
@[simp] theorem State.startRecomplement_xLow : (s.startRecomplement).xLow = s.xLow := rfl
@[simp] theorem State.startRecomplement_y : (s.startRecomplement).y = s.y := rfl
@[simp] theorem State.startRecomplement_msar : (s.startRecomplement).msar = s.msar := rfl
@[simp] theorem State.startRecomplement_firstCycle : (s.startRecomplement).firstCycle = s.firstCycle := rfl
@[simp] theorem State.startRecomplement_complement : (s.startRecomplement).complement = true := rfl
@[simp] theorem State.startRecomplement_recomplement : (s.startRecomplement).recomplement = true := rfl
@[simp] theorem State.startRecomplement_carry : (s.startRecomplement).carry = s.carry := rfl
@[simp] theorem State.startRecomplement_stepMode : (s.startRecomplement).stepMode = s.stepMode := rfl
@[simp] theorem State.startRecomplement_clockRun : (s.startRecomplement).clockRun = s.clockRun := rfl
@[simp] theorem State.startRecomplement_clock : (s.startRecomplement).clock = s.clock := rfl
@[simp] theorem State.startRecomplement_atr : (s.startRecomplement).atr = s.atr := rfl
@[simp] theorem State.startRecomplement_cmr : (s.startRecomplement).cmr = s.cmr := rfl
@[simp] theorem State.startRecomplement_bmr : (s.startRecomplement).bmr = s.bmr := rfl
@[simp] theorem State.startRecomplement_ccr : (s.startRecomplement).ccr = s.ccr := rfl
@[simp] theorem State.startRecomplement_acr : (s.startRecomplement).acr = s.acr := rfl
@[simp] theorem State.startRecomplement_nonexecutable : (s.startRecomplement).nonexecutable = s.nonexecutable := rfl
@[simp] theorem State.startRecomplement_controlGateCheck : (s.startRecomplement).controlGateCheck = s.controlGateCheck := rfl
@[simp] theorem State.startRecomplement_lsrGateCheck : (s.startRecomplement).lsrGateCheck = s.lsrGateCheck := rfl
@[simp] theorem State.startRecomplement_storageGateCheck : (s.startRecomplement).storageGateCheck = s.storageGateCheck := rfl
@[simp] theorem State.startRecomplement_addressCheck : (s.startRecomplement).addressCheck = s.addressCheck := rfl
@[simp] theorem State.startRecomplement_sb3 : (s.startRecomplement).sb3 = s.sb3 := rfl
@[simp] theorem State.startRecomplement_processorError : (s.startRecomplement).processorError = s.processorError := rfl
@[simp] theorem State.startRecomplement_level5 : (s.startRecomplement).level5 = s.level5 := rfl
@[simp] theorem State.startRecomplement_mem : (s.startRecomplement).mem = s.mem := rfl
@[simp] theorem State.startRecomplement_ceAddressStop : (s.startRecomplement).ceAddressStop = s.ceAddressStop := rfl
@[simp] theorem State.startRecomplement_cfg : (s.startRecomplement).cfg = s.cfg := rfl
@[simp] theorem State.startRecomplement_stopped : (s.startRecomplement).stopped = s.stopped := rfl
@[simp] theorem State.startRecomplement_compareHit : (s.startRecomplement).compareHit = s.compareHit := rfl
@[simp] theorem State.startRecomplement_freeCount : (s.startRecomplement).freeCount = s.freeCount := rfl
@[simp] theorem State.startRecomplement_host : (s.startRecomplement).host = s.host := rfl

/-! ### `State.freePsr` -/

@[simp] theorem State.freePsr_lsrReserved : (s.freePsr).lsrReserved = s.lsrReserved := rfl
@[simp] theorem State.freePsr_lsr8 : (s.freePsr).lsr8 = s.lsr8 := rfl
@[simp] theorem State.freePsr_lsr9 : (s.freePsr).lsr9 = s.lsr9 := rfl
@[simp] theorem State.freePsr_iar : (s.freePsr).iar = s.iar := rfl
@[simp] theorem State.freePsr_lsr11Op : (s.freePsr).lsr11Op = s.lsr11Op := rfl
@[simp] theorem State.freePsr_lsr11Q : (s.freePsr).lsr11Q = s.lsr11Q := rfl
@[simp] theorem State.freePsr_xr1 : (s.freePsr).xr1 = s.xr1 := rfl
@[simp] theorem State.freePsr_xr2 : (s.freePsr).xr2 = s.xr2 := rfl
@[simp] theorem State.freePsr_arr : (s.freePsr).arr = s.arr := rfl
@[simp] theorem State.freePsr_lcrr : (s.freePsr).lcrr = s.lcrr := rfl
@[simp] theorem State.freePsr_psr : (s.freePsr).psr = Config.freeByte s.freeCount &&& 0x3F := rfl
@[simp] theorem State.freePsr_pmr : (s.freePsr).pmr = s.pmr := rfl
@[simp] theorem State.freePsr_opReg : (s.freePsr).opReg = s.opReg := rfl
@[simp] theorem State.freePsr_qReg : (s.freePsr).qReg = s.qReg := rfl
@[simp] theorem State.freePsr_qBackup : (s.freePsr).qBackup = s.qBackup := rfl
@[simp] theorem State.freePsr_xHigh : (s.freePsr).xHigh = s.xHigh := rfl
@[simp] theorem State.freePsr_xLow : (s.freePsr).xLow = s.xLow := rfl
@[simp] theorem State.freePsr_y : (s.freePsr).y = s.y := rfl
@[simp] theorem State.freePsr_msar : (s.freePsr).msar = s.msar := rfl
@[simp] theorem State.freePsr_firstCycle : (s.freePsr).firstCycle = s.firstCycle := rfl
@[simp] theorem State.freePsr_complement : (s.freePsr).complement = s.complement := rfl
@[simp] theorem State.freePsr_recomplement : (s.freePsr).recomplement = s.recomplement := rfl
@[simp] theorem State.freePsr_carry : (s.freePsr).carry = s.carry := rfl
@[simp] theorem State.freePsr_stepMode : (s.freePsr).stepMode = s.stepMode := rfl
@[simp] theorem State.freePsr_clockRun : (s.freePsr).clockRun = s.clockRun := rfl
@[simp] theorem State.freePsr_clock : (s.freePsr).clock = s.clock := rfl
@[simp] theorem State.freePsr_atr : (s.freePsr).atr = s.atr := rfl
@[simp] theorem State.freePsr_cmr : (s.freePsr).cmr = s.cmr := rfl
@[simp] theorem State.freePsr_bmr : (s.freePsr).bmr = s.bmr := rfl
@[simp] theorem State.freePsr_ccr : (s.freePsr).ccr = s.ccr := rfl
@[simp] theorem State.freePsr_acr : (s.freePsr).acr = s.acr := rfl
@[simp] theorem State.freePsr_nonexecutable : (s.freePsr).nonexecutable = s.nonexecutable := rfl
@[simp] theorem State.freePsr_controlGateCheck : (s.freePsr).controlGateCheck = s.controlGateCheck := rfl
@[simp] theorem State.freePsr_lsrGateCheck : (s.freePsr).lsrGateCheck = s.lsrGateCheck := rfl
@[simp] theorem State.freePsr_storageGateCheck : (s.freePsr).storageGateCheck = s.storageGateCheck := rfl
@[simp] theorem State.freePsr_addressCheck : (s.freePsr).addressCheck = s.addressCheck := rfl
@[simp] theorem State.freePsr_sb3 : (s.freePsr).sb3 = s.sb3 := rfl
@[simp] theorem State.freePsr_processorError : (s.freePsr).processorError = s.processorError := rfl
@[simp] theorem State.freePsr_level5 : (s.freePsr).level5 = s.level5 := rfl
@[simp] theorem State.freePsr_mem : (s.freePsr).mem = s.mem := rfl
@[simp] theorem State.freePsr_ceAddressStop : (s.freePsr).ceAddressStop = s.ceAddressStop := rfl
@[simp] theorem State.freePsr_cfg : (s.freePsr).cfg = s.cfg := rfl
@[simp] theorem State.freePsr_stopped : (s.freePsr).stopped = s.stopped := rfl
@[simp] theorem State.freePsr_compareHit : (s.freePsr).compareHit = s.compareHit := rfl
@[simp] theorem State.freePsr_host : (s.freePsr).host = s.host := rfl

/-! ### `State.freeLcrr` -/

@[simp] theorem State.freeLcrr_lsrReserved : (s.freeLcrr).lsrReserved = s.lsrReserved := rfl
@[simp] theorem State.freeLcrr_lsr8 : (s.freeLcrr).lsr8 = s.lsr8 := rfl
@[simp] theorem State.freeLcrr_lsr9 : (s.freeLcrr).lsr9 = s.lsr9 := rfl
@[simp] theorem State.freeLcrr_iar : (s.freeLcrr).iar = s.iar := rfl
@[simp] theorem State.freeLcrr_lsr11Op : (s.freeLcrr).lsr11Op = s.lsr11Op := rfl
@[simp] theorem State.freeLcrr_lsr11Q : (s.freeLcrr).lsr11Q = s.lsr11Q := rfl
@[simp] theorem State.freeLcrr_xr1 : (s.freeLcrr).xr1 = s.xr1 := rfl
@[simp] theorem State.freeLcrr_xr2 : (s.freeLcrr).xr2 = s.xr2 := rfl
@[simp] theorem State.freeLcrr_arr : (s.freeLcrr).arr = s.arr := rfl
@[simp] theorem State.freeLcrr_psrLsr : (s.freeLcrr).psrLsr = s.psrLsr := rfl
@[simp] theorem State.freeLcrr_psr : (s.freeLcrr).psr = s.psr := rfl
@[simp] theorem State.freeLcrr_pmr : (s.freeLcrr).pmr = s.pmr := rfl
@[simp] theorem State.freeLcrr_opReg : (s.freeLcrr).opReg = s.opReg := rfl
@[simp] theorem State.freeLcrr_qReg : (s.freeLcrr).qReg = s.qReg := rfl
@[simp] theorem State.freeLcrr_qBackup : (s.freeLcrr).qBackup = s.qBackup := rfl
@[simp] theorem State.freeLcrr_xHigh : (s.freeLcrr).xHigh = s.xHigh := rfl
@[simp] theorem State.freeLcrr_xLow : (s.freeLcrr).xLow = s.xLow := rfl
@[simp] theorem State.freeLcrr_y : (s.freeLcrr).y = s.y := rfl
@[simp] theorem State.freeLcrr_msar : (s.freeLcrr).msar = s.msar := rfl
@[simp] theorem State.freeLcrr_firstCycle : (s.freeLcrr).firstCycle = s.firstCycle := rfl
@[simp] theorem State.freeLcrr_complement : (s.freeLcrr).complement = s.complement := rfl
@[simp] theorem State.freeLcrr_recomplement : (s.freeLcrr).recomplement = s.recomplement := rfl
@[simp] theorem State.freeLcrr_carry : (s.freeLcrr).carry = s.carry := rfl
@[simp] theorem State.freeLcrr_stepMode : (s.freeLcrr).stepMode = s.stepMode := rfl
@[simp] theorem State.freeLcrr_clockRun : (s.freeLcrr).clockRun = s.clockRun := rfl
@[simp] theorem State.freeLcrr_clock : (s.freeLcrr).clock = s.clock := rfl
@[simp] theorem State.freeLcrr_atr : (s.freeLcrr).atr = s.atr := rfl
@[simp] theorem State.freeLcrr_cmr : (s.freeLcrr).cmr = s.cmr := rfl
@[simp] theorem State.freeLcrr_bmr : (s.freeLcrr).bmr = s.bmr := rfl
@[simp] theorem State.freeLcrr_ccr : (s.freeLcrr).ccr = s.ccr := rfl
@[simp] theorem State.freeLcrr_acr : (s.freeLcrr).acr = s.acr := rfl
@[simp] theorem State.freeLcrr_nonexecutable : (s.freeLcrr).nonexecutable = s.nonexecutable := rfl
@[simp] theorem State.freeLcrr_controlGateCheck : (s.freeLcrr).controlGateCheck = s.controlGateCheck := rfl
@[simp] theorem State.freeLcrr_lsrGateCheck : (s.freeLcrr).lsrGateCheck = s.lsrGateCheck := rfl
@[simp] theorem State.freeLcrr_storageGateCheck : (s.freeLcrr).storageGateCheck = s.storageGateCheck := rfl
@[simp] theorem State.freeLcrr_addressCheck : (s.freeLcrr).addressCheck = s.addressCheck := rfl
@[simp] theorem State.freeLcrr_sb3 : (s.freeLcrr).sb3 = s.sb3 := rfl
@[simp] theorem State.freeLcrr_processorError : (s.freeLcrr).processorError = s.processorError := rfl
@[simp] theorem State.freeLcrr_level5 : (s.freeLcrr).level5 = s.level5 := rfl
@[simp] theorem State.freeLcrr_mem : (s.freeLcrr).mem = s.mem := rfl
@[simp] theorem State.freeLcrr_ceAddressStop : (s.freeLcrr).ceAddressStop = s.ceAddressStop := rfl
@[simp] theorem State.freeLcrr_cfg : (s.freeLcrr).cfg = s.cfg := rfl
@[simp] theorem State.freeLcrr_stopped : (s.freeLcrr).stopped = s.stopped := rfl
@[simp] theorem State.freeLcrr_compareHit : (s.freeLcrr).compareHit = s.compareHit := rfl
@[simp] theorem State.freeLcrr_host : (s.freeLcrr).host = s.host := rfl

/-! ### `State.freeCarry` -/

@[simp] theorem State.freeCarry_lsrReserved : (s.freeCarry).lsrReserved = s.lsrReserved := rfl
@[simp] theorem State.freeCarry_lsr8 : (s.freeCarry).lsr8 = s.lsr8 := rfl
@[simp] theorem State.freeCarry_lsr9 : (s.freeCarry).lsr9 = s.lsr9 := rfl
@[simp] theorem State.freeCarry_iar : (s.freeCarry).iar = s.iar := rfl
@[simp] theorem State.freeCarry_lsr11Op : (s.freeCarry).lsr11Op = s.lsr11Op := rfl
@[simp] theorem State.freeCarry_lsr11Q : (s.freeCarry).lsr11Q = s.lsr11Q := rfl
@[simp] theorem State.freeCarry_xr1 : (s.freeCarry).xr1 = s.xr1 := rfl
@[simp] theorem State.freeCarry_xr2 : (s.freeCarry).xr2 = s.xr2 := rfl
@[simp] theorem State.freeCarry_arr : (s.freeCarry).arr = s.arr := rfl
@[simp] theorem State.freeCarry_lcrr : (s.freeCarry).lcrr = s.lcrr := rfl
@[simp] theorem State.freeCarry_psrLsr : (s.freeCarry).psrLsr = s.psrLsr := rfl
@[simp] theorem State.freeCarry_psr : (s.freeCarry).psr = s.psr := rfl
@[simp] theorem State.freeCarry_pmr : (s.freeCarry).pmr = s.pmr := rfl
@[simp] theorem State.freeCarry_opReg : (s.freeCarry).opReg = s.opReg := rfl
@[simp] theorem State.freeCarry_qReg : (s.freeCarry).qReg = s.qReg := rfl
@[simp] theorem State.freeCarry_qBackup : (s.freeCarry).qBackup = s.qBackup := rfl
@[simp] theorem State.freeCarry_xHigh : (s.freeCarry).xHigh = s.xHigh := rfl
@[simp] theorem State.freeCarry_xLow : (s.freeCarry).xLow = s.xLow := rfl
@[simp] theorem State.freeCarry_y : (s.freeCarry).y = s.y := rfl
@[simp] theorem State.freeCarry_msar : (s.freeCarry).msar = s.msar := rfl
@[simp] theorem State.freeCarry_firstCycle : (s.freeCarry).firstCycle = s.firstCycle := rfl
@[simp] theorem State.freeCarry_complement : (s.freeCarry).complement = s.complement := rfl
@[simp] theorem State.freeCarry_recomplement : (s.freeCarry).recomplement = s.recomplement := rfl
@[simp] theorem State.freeCarry_stepMode : (s.freeCarry).stepMode = s.stepMode := rfl
@[simp] theorem State.freeCarry_clockRun : (s.freeCarry).clockRun = s.clockRun := rfl
@[simp] theorem State.freeCarry_clock : (s.freeCarry).clock = s.clock := rfl
@[simp] theorem State.freeCarry_atr : (s.freeCarry).atr = s.atr := rfl
@[simp] theorem State.freeCarry_cmr : (s.freeCarry).cmr = s.cmr := rfl
@[simp] theorem State.freeCarry_bmr : (s.freeCarry).bmr = s.bmr := rfl
@[simp] theorem State.freeCarry_ccr : (s.freeCarry).ccr = s.ccr := rfl
@[simp] theorem State.freeCarry_acr : (s.freeCarry).acr = s.acr := rfl
@[simp] theorem State.freeCarry_nonexecutable : (s.freeCarry).nonexecutable = s.nonexecutable := rfl
@[simp] theorem State.freeCarry_controlGateCheck : (s.freeCarry).controlGateCheck = s.controlGateCheck := rfl
@[simp] theorem State.freeCarry_lsrGateCheck : (s.freeCarry).lsrGateCheck = s.lsrGateCheck := rfl
@[simp] theorem State.freeCarry_storageGateCheck : (s.freeCarry).storageGateCheck = s.storageGateCheck := rfl
@[simp] theorem State.freeCarry_addressCheck : (s.freeCarry).addressCheck = s.addressCheck := rfl
@[simp] theorem State.freeCarry_sb3 : (s.freeCarry).sb3 = s.sb3 := rfl
@[simp] theorem State.freeCarry_processorError : (s.freeCarry).processorError = s.processorError := rfl
@[simp] theorem State.freeCarry_level5 : (s.freeCarry).level5 = s.level5 := rfl
@[simp] theorem State.freeCarry_mem : (s.freeCarry).mem = s.mem := rfl
@[simp] theorem State.freeCarry_ceAddressStop : (s.freeCarry).ceAddressStop = s.ceAddressStop := rfl
@[simp] theorem State.freeCarry_cfg : (s.freeCarry).cfg = s.cfg := rfl
@[simp] theorem State.freeCarry_stopped : (s.freeCarry).stopped = s.stopped := rfl
@[simp] theorem State.freeCarry_compareHit : (s.freeCarry).compareHit = s.compareHit := rfl
@[simp] theorem State.freeCarry_host : (s.freeCarry).host = s.host := rfl

/-! ### `State.freeEdit` -/

@[simp] theorem State.freeEdit_lsrReserved : (s.freeEdit).lsrReserved = s.lsrReserved := rfl
@[simp] theorem State.freeEdit_lsr8 : (s.freeEdit).lsr8 = s.lsr8 := rfl
@[simp] theorem State.freeEdit_lsr9 : (s.freeEdit).lsr9 = s.lsr9 := rfl
@[simp] theorem State.freeEdit_iar : (s.freeEdit).iar = s.iar := rfl
@[simp] theorem State.freeEdit_lsr11Op : (s.freeEdit).lsr11Op = s.lsr11Op := rfl
@[simp] theorem State.freeEdit_lsr11Q : (s.freeEdit).lsr11Q = s.lsr11Q := rfl
@[simp] theorem State.freeEdit_xr1 : (s.freeEdit).xr1 = s.xr1 := rfl
@[simp] theorem State.freeEdit_xr2 : (s.freeEdit).xr2 = s.xr2 := rfl
@[simp] theorem State.freeEdit_arr : (s.freeEdit).arr = s.arr := rfl
@[simp] theorem State.freeEdit_lcrr : (s.freeEdit).lcrr = s.lcrr := rfl
@[simp] theorem State.freeEdit_psrLsr : (s.freeEdit).psrLsr = s.psrLsr := rfl
@[simp] theorem State.freeEdit_pmr : (s.freeEdit).pmr = s.pmr := rfl
@[simp] theorem State.freeEdit_opReg : (s.freeEdit).opReg = s.opReg := rfl
@[simp] theorem State.freeEdit_qReg : (s.freeEdit).qReg = s.qReg := rfl
@[simp] theorem State.freeEdit_qBackup : (s.freeEdit).qBackup = s.qBackup := rfl
@[simp] theorem State.freeEdit_xHigh : (s.freeEdit).xHigh = s.xHigh := rfl
@[simp] theorem State.freeEdit_xLow : (s.freeEdit).xLow = s.xLow := rfl
@[simp] theorem State.freeEdit_y : (s.freeEdit).y = s.y := rfl
@[simp] theorem State.freeEdit_msar : (s.freeEdit).msar = s.msar := rfl
@[simp] theorem State.freeEdit_firstCycle : (s.freeEdit).firstCycle = s.firstCycle := rfl
@[simp] theorem State.freeEdit_complement : (s.freeEdit).complement = s.complement := rfl
@[simp] theorem State.freeEdit_recomplement : (s.freeEdit).recomplement = s.recomplement := rfl
@[simp] theorem State.freeEdit_carry : (s.freeEdit).carry = s.carry := rfl
@[simp] theorem State.freeEdit_stepMode : (s.freeEdit).stepMode = s.stepMode := rfl
@[simp] theorem State.freeEdit_clockRun : (s.freeEdit).clockRun = s.clockRun := rfl
@[simp] theorem State.freeEdit_clock : (s.freeEdit).clock = s.clock := rfl
@[simp] theorem State.freeEdit_atr : (s.freeEdit).atr = s.atr := rfl
@[simp] theorem State.freeEdit_cmr : (s.freeEdit).cmr = s.cmr := rfl
@[simp] theorem State.freeEdit_bmr : (s.freeEdit).bmr = s.bmr := rfl
@[simp] theorem State.freeEdit_ccr : (s.freeEdit).ccr = s.ccr := rfl
@[simp] theorem State.freeEdit_acr : (s.freeEdit).acr = s.acr := rfl
@[simp] theorem State.freeEdit_nonexecutable : (s.freeEdit).nonexecutable = s.nonexecutable := rfl
@[simp] theorem State.freeEdit_controlGateCheck : (s.freeEdit).controlGateCheck = s.controlGateCheck := rfl
@[simp] theorem State.freeEdit_lsrGateCheck : (s.freeEdit).lsrGateCheck = s.lsrGateCheck := rfl
@[simp] theorem State.freeEdit_storageGateCheck : (s.freeEdit).storageGateCheck = s.storageGateCheck := rfl
@[simp] theorem State.freeEdit_addressCheck : (s.freeEdit).addressCheck = s.addressCheck := rfl
@[simp] theorem State.freeEdit_sb3 : (s.freeEdit).sb3 = s.sb3 := rfl
@[simp] theorem State.freeEdit_processorError : (s.freeEdit).processorError = s.processorError := rfl
@[simp] theorem State.freeEdit_level5 : (s.freeEdit).level5 = s.level5 := rfl
@[simp] theorem State.freeEdit_mem : (s.freeEdit).mem = s.mem := rfl
@[simp] theorem State.freeEdit_ceAddressStop : (s.freeEdit).ceAddressStop = s.ceAddressStop := rfl
@[simp] theorem State.freeEdit_cfg : (s.freeEdit).cfg = s.cfg := rfl
@[simp] theorem State.freeEdit_stopped : (s.freeEdit).stopped = s.stopped := rfl
@[simp] theorem State.freeEdit_compareHit : (s.freeEdit).compareHit = s.compareHit := rfl
@[simp] theorem State.freeEdit_host : (s.freeEdit).host = s.host := rfl

/-! ### `State.latchOp` -/

@[simp] theorem State.latchOp_lsrReserved (b : Byte) : (s.latchOp b).lsrReserved = s.lsrReserved := rfl
@[simp] theorem State.latchOp_lsr8 (b : Byte) : (s.latchOp b).lsr8 = s.lsr8 := rfl
@[simp] theorem State.latchOp_lsr9 (b : Byte) : (s.latchOp b).lsr9 = s.lsr9 := rfl
@[simp] theorem State.latchOp_iar (b : Byte) : (s.latchOp b).iar = s.iar := rfl
@[simp] theorem State.latchOp_lsr11Op (b : Byte) : (s.latchOp b).lsr11Op = b := rfl
@[simp] theorem State.latchOp_lsr11Q (b : Byte) : (s.latchOp b).lsr11Q = s.lsr11Q := rfl
@[simp] theorem State.latchOp_xr1 (b : Byte) : (s.latchOp b).xr1 = s.xr1 := rfl
@[simp] theorem State.latchOp_xr2 (b : Byte) : (s.latchOp b).xr2 = s.xr2 := rfl
@[simp] theorem State.latchOp_arr (b : Byte) : (s.latchOp b).arr = s.arr := rfl
@[simp] theorem State.latchOp_lcrr (b : Byte) : (s.latchOp b).lcrr = s.lcrr := rfl
@[simp] theorem State.latchOp_psrLsr (b : Byte) : (s.latchOp b).psrLsr = s.psrLsr := rfl
@[simp] theorem State.latchOp_psr (b : Byte) : (s.latchOp b).psr = s.psr := rfl
@[simp] theorem State.latchOp_pmr (b : Byte) : (s.latchOp b).pmr = s.pmr := rfl
@[simp] theorem State.latchOp_opReg (b : Byte) : (s.latchOp b).opReg = b := rfl
@[simp] theorem State.latchOp_qReg (b : Byte) : (s.latchOp b).qReg = s.qReg := rfl
@[simp] theorem State.latchOp_qBackup (b : Byte) : (s.latchOp b).qBackup = s.qBackup := rfl
@[simp] theorem State.latchOp_xHigh (b : Byte) : (s.latchOp b).xHigh = s.xHigh := rfl
@[simp] theorem State.latchOp_xLow (b : Byte) : (s.latchOp b).xLow = s.xLow := rfl
@[simp] theorem State.latchOp_y (b : Byte) : (s.latchOp b).y = s.y := rfl
@[simp] theorem State.latchOp_msar (b : Byte) : (s.latchOp b).msar = s.msar := rfl
@[simp] theorem State.latchOp_firstCycle (b : Byte) : (s.latchOp b).firstCycle = s.firstCycle := rfl
@[simp] theorem State.latchOp_complement (b : Byte) : (s.latchOp b).complement = s.complement := rfl
@[simp] theorem State.latchOp_recomplement (b : Byte) : (s.latchOp b).recomplement = s.recomplement := rfl
@[simp] theorem State.latchOp_carry (b : Byte) : (s.latchOp b).carry = s.carry := rfl
@[simp] theorem State.latchOp_stepMode (b : Byte) : (s.latchOp b).stepMode = s.stepMode := rfl
@[simp] theorem State.latchOp_clockRun (b : Byte) : (s.latchOp b).clockRun = s.clockRun := rfl
@[simp] theorem State.latchOp_clock (b : Byte) : (s.latchOp b).clock = s.clock := rfl
@[simp] theorem State.latchOp_atr (b : Byte) : (s.latchOp b).atr = s.atr := rfl
@[simp] theorem State.latchOp_cmr (b : Byte) : (s.latchOp b).cmr = s.cmr := rfl
@[simp] theorem State.latchOp_bmr (b : Byte) : (s.latchOp b).bmr = s.bmr := rfl
@[simp] theorem State.latchOp_ccr (b : Byte) : (s.latchOp b).ccr = s.ccr := rfl
@[simp] theorem State.latchOp_acr (b : Byte) : (s.latchOp b).acr = s.acr := rfl
@[simp] theorem State.latchOp_nonexecutable (b : Byte) : (s.latchOp b).nonexecutable = isNonexecutable b := rfl
@[simp] theorem State.latchOp_controlGateCheck (b : Byte) : (s.latchOp b).controlGateCheck = s.controlGateCheck := rfl
@[simp] theorem State.latchOp_lsrGateCheck (b : Byte) : (s.latchOp b).lsrGateCheck = s.lsrGateCheck := rfl
@[simp] theorem State.latchOp_storageGateCheck (b : Byte) : (s.latchOp b).storageGateCheck = s.storageGateCheck := rfl
@[simp] theorem State.latchOp_addressCheck (b : Byte) : (s.latchOp b).addressCheck = s.addressCheck := rfl
@[simp] theorem State.latchOp_sb3 (b : Byte) : (s.latchOp b).sb3 = s.sb3 := rfl
@[simp] theorem State.latchOp_processorError (b : Byte) : (s.latchOp b).processorError = s.processorError := rfl
@[simp] theorem State.latchOp_level5 (b : Byte) : (s.latchOp b).level5 = s.level5 := rfl
@[simp] theorem State.latchOp_mem (b : Byte) : (s.latchOp b).mem = s.mem := rfl
@[simp] theorem State.latchOp_ceAddressStop (b : Byte) : (s.latchOp b).ceAddressStop = s.ceAddressStop := rfl
@[simp] theorem State.latchOp_cfg (b : Byte) : (s.latchOp b).cfg = s.cfg := rfl
@[simp] theorem State.latchOp_stopped (b : Byte) : (s.latchOp b).stopped = s.stopped := rfl
@[simp] theorem State.latchOp_compareHit (b : Byte) : (s.latchOp b).compareHit = s.compareHit := rfl
@[simp] theorem State.latchOp_freeCount (b : Byte) : (s.latchOp b).freeCount = s.freeCount := rfl
@[simp] theorem State.latchOp_host (b : Byte) : (s.latchOp b).host = s.host := rfl

/-! ### `State.latchQ` -/

@[simp] theorem State.latchQ_lsrReserved (b : Byte) : (s.latchQ b).lsrReserved = s.lsrReserved := rfl
@[simp] theorem State.latchQ_lsr8 (b : Byte) : (s.latchQ b).lsr8 = s.lsr8 := rfl
@[simp] theorem State.latchQ_lsr9 (b : Byte) : (s.latchQ b).lsr9 = s.lsr9 := rfl
@[simp] theorem State.latchQ_iar (b : Byte) : (s.latchQ b).iar = s.iar := rfl
@[simp] theorem State.latchQ_lsr11Op (b : Byte) : (s.latchQ b).lsr11Op = s.lsr11Op := rfl
@[simp] theorem State.latchQ_lsr11Q (b : Byte) : (s.latchQ b).lsr11Q = b := rfl
@[simp] theorem State.latchQ_xr1 (b : Byte) : (s.latchQ b).xr1 = s.xr1 := rfl
@[simp] theorem State.latchQ_xr2 (b : Byte) : (s.latchQ b).xr2 = s.xr2 := rfl
@[simp] theorem State.latchQ_arr (b : Byte) : (s.latchQ b).arr = s.arr := rfl
@[simp] theorem State.latchQ_lcrr (b : Byte) : (s.latchQ b).lcrr = s.lcrr := rfl
@[simp] theorem State.latchQ_psrLsr (b : Byte) : (s.latchQ b).psrLsr = s.psrLsr := rfl
@[simp] theorem State.latchQ_psr (b : Byte) : (s.latchQ b).psr = s.psr := rfl
@[simp] theorem State.latchQ_pmr (b : Byte) : (s.latchQ b).pmr = s.pmr := rfl
@[simp] theorem State.latchQ_opReg (b : Byte) : (s.latchQ b).opReg = s.opReg := rfl
@[simp] theorem State.latchQ_qReg (b : Byte) : (s.latchQ b).qReg = b := rfl
@[simp] theorem State.latchQ_qBackup (b : Byte) : (s.latchQ b).qBackup = b := rfl
@[simp] theorem State.latchQ_xHigh (b : Byte) : (s.latchQ b).xHigh = s.xHigh := rfl
@[simp] theorem State.latchQ_xLow (b : Byte) : (s.latchQ b).xLow = s.xLow := rfl
@[simp] theorem State.latchQ_y (b : Byte) : (s.latchQ b).y = s.y := rfl
@[simp] theorem State.latchQ_msar (b : Byte) : (s.latchQ b).msar = s.msar := rfl
@[simp] theorem State.latchQ_firstCycle (b : Byte) : (s.latchQ b).firstCycle = s.firstCycle := rfl
@[simp] theorem State.latchQ_complement (b : Byte) : (s.latchQ b).complement = s.complement := rfl
@[simp] theorem State.latchQ_recomplement (b : Byte) : (s.latchQ b).recomplement = s.recomplement := rfl
@[simp] theorem State.latchQ_carry (b : Byte) : (s.latchQ b).carry = s.carry := rfl
@[simp] theorem State.latchQ_stepMode (b : Byte) : (s.latchQ b).stepMode = s.stepMode := rfl
@[simp] theorem State.latchQ_clockRun (b : Byte) : (s.latchQ b).clockRun = s.clockRun := rfl
@[simp] theorem State.latchQ_clock (b : Byte) : (s.latchQ b).clock = s.clock := rfl
@[simp] theorem State.latchQ_atr (b : Byte) : (s.latchQ b).atr = s.atr := rfl
@[simp] theorem State.latchQ_cmr (b : Byte) : (s.latchQ b).cmr = s.cmr := rfl
@[simp] theorem State.latchQ_bmr (b : Byte) : (s.latchQ b).bmr = s.bmr := rfl
@[simp] theorem State.latchQ_ccr (b : Byte) : (s.latchQ b).ccr = s.ccr := rfl
@[simp] theorem State.latchQ_acr (b : Byte) : (s.latchQ b).acr = s.acr := rfl
@[simp] theorem State.latchQ_nonexecutable (b : Byte) : (s.latchQ b).nonexecutable = s.nonexecutable := rfl
@[simp] theorem State.latchQ_controlGateCheck (b : Byte) : (s.latchQ b).controlGateCheck = s.controlGateCheck := rfl
@[simp] theorem State.latchQ_lsrGateCheck (b : Byte) : (s.latchQ b).lsrGateCheck = s.lsrGateCheck := rfl
@[simp] theorem State.latchQ_storageGateCheck (b : Byte) : (s.latchQ b).storageGateCheck = s.storageGateCheck := rfl
@[simp] theorem State.latchQ_addressCheck (b : Byte) : (s.latchQ b).addressCheck = s.addressCheck := rfl
@[simp] theorem State.latchQ_sb3 (b : Byte) : (s.latchQ b).sb3 = s.sb3 := rfl
@[simp] theorem State.latchQ_processorError (b : Byte) : (s.latchQ b).processorError = s.processorError := rfl
@[simp] theorem State.latchQ_level5 (b : Byte) : (s.latchQ b).level5 = s.level5 := rfl
@[simp] theorem State.latchQ_mem (b : Byte) : (s.latchQ b).mem = s.mem := rfl
@[simp] theorem State.latchQ_ceAddressStop (b : Byte) : (s.latchQ b).ceAddressStop = s.ceAddressStop := rfl
@[simp] theorem State.latchQ_cfg (b : Byte) : (s.latchQ b).cfg = s.cfg := rfl
@[simp] theorem State.latchQ_stopped (b : Byte) : (s.latchQ b).stopped = s.stopped := rfl
@[simp] theorem State.latchQ_compareHit (b : Byte) : (s.latchQ b).compareHit = s.compareHit := rfl
@[simp] theorem State.latchQ_freeCount (b : Byte) : (s.latchQ b).freeCount = s.freeCount := rfl
@[simp] theorem State.latchQ_host (b : Byte) : (s.latchQ b).host = s.host := rfl

/-! ### `State.setLsr8` -/

@[simp] theorem State.setLsr8_lsrReserved (a : Word) : (s.setLsr8 a).lsrReserved = s.lsrReserved := rfl
@[simp] theorem State.setLsr8_lsr8 (a : Word) : (s.setLsr8 a).lsr8 = a := rfl
@[simp] theorem State.setLsr8_lsr9 (a : Word) : (s.setLsr8 a).lsr9 = s.lsr9 := rfl
@[simp] theorem State.setLsr8_iar (a : Word) : (s.setLsr8 a).iar = s.iar := rfl
@[simp] theorem State.setLsr8_lsr11Op (a : Word) : (s.setLsr8 a).lsr11Op = s.lsr11Op := rfl
@[simp] theorem State.setLsr8_lsr11Q (a : Word) : (s.setLsr8 a).lsr11Q = s.lsr11Q := rfl
@[simp] theorem State.setLsr8_xr1 (a : Word) : (s.setLsr8 a).xr1 = s.xr1 := rfl
@[simp] theorem State.setLsr8_xr2 (a : Word) : (s.setLsr8 a).xr2 = s.xr2 := rfl
@[simp] theorem State.setLsr8_arr (a : Word) : (s.setLsr8 a).arr = s.arr := rfl
@[simp] theorem State.setLsr8_lcrr (a : Word) : (s.setLsr8 a).lcrr = s.lcrr := rfl
@[simp] theorem State.setLsr8_psrLsr (a : Word) : (s.setLsr8 a).psrLsr = s.psrLsr := rfl
@[simp] theorem State.setLsr8_psr (a : Word) : (s.setLsr8 a).psr = s.psr := rfl
@[simp] theorem State.setLsr8_pmr (a : Word) : (s.setLsr8 a).pmr = s.pmr := rfl
@[simp] theorem State.setLsr8_opReg (a : Word) : (s.setLsr8 a).opReg = s.opReg := rfl
@[simp] theorem State.setLsr8_qReg (a : Word) : (s.setLsr8 a).qReg = s.qReg := rfl
@[simp] theorem State.setLsr8_qBackup (a : Word) : (s.setLsr8 a).qBackup = s.qBackup := rfl
@[simp] theorem State.setLsr8_xHigh (a : Word) : (s.setLsr8 a).xHigh = s.xHigh := rfl
@[simp] theorem State.setLsr8_xLow (a : Word) : (s.setLsr8 a).xLow = s.xLow := rfl
@[simp] theorem State.setLsr8_y (a : Word) : (s.setLsr8 a).y = s.y := rfl
@[simp] theorem State.setLsr8_msar (a : Word) : (s.setLsr8 a).msar = s.msar := rfl
@[simp] theorem State.setLsr8_firstCycle (a : Word) : (s.setLsr8 a).firstCycle = s.firstCycle := rfl
@[simp] theorem State.setLsr8_complement (a : Word) : (s.setLsr8 a).complement = s.complement := rfl
@[simp] theorem State.setLsr8_recomplement (a : Word) : (s.setLsr8 a).recomplement = s.recomplement := rfl
@[simp] theorem State.setLsr8_carry (a : Word) : (s.setLsr8 a).carry = s.carry := rfl
@[simp] theorem State.setLsr8_stepMode (a : Word) : (s.setLsr8 a).stepMode = s.stepMode := rfl
@[simp] theorem State.setLsr8_clockRun (a : Word) : (s.setLsr8 a).clockRun = s.clockRun := rfl
@[simp] theorem State.setLsr8_clock (a : Word) : (s.setLsr8 a).clock = s.clock := rfl
@[simp] theorem State.setLsr8_atr (a : Word) : (s.setLsr8 a).atr = s.atr := rfl
@[simp] theorem State.setLsr8_cmr (a : Word) : (s.setLsr8 a).cmr = s.cmr := rfl
@[simp] theorem State.setLsr8_bmr (a : Word) : (s.setLsr8 a).bmr = s.bmr := rfl
@[simp] theorem State.setLsr8_ccr (a : Word) : (s.setLsr8 a).ccr = s.ccr := rfl
@[simp] theorem State.setLsr8_acr (a : Word) : (s.setLsr8 a).acr = s.acr := rfl
@[simp] theorem State.setLsr8_nonexecutable (a : Word) : (s.setLsr8 a).nonexecutable = s.nonexecutable := rfl
@[simp] theorem State.setLsr8_controlGateCheck (a : Word) : (s.setLsr8 a).controlGateCheck = s.controlGateCheck := rfl
@[simp] theorem State.setLsr8_lsrGateCheck (a : Word) : (s.setLsr8 a).lsrGateCheck = s.lsrGateCheck := rfl
@[simp] theorem State.setLsr8_storageGateCheck (a : Word) : (s.setLsr8 a).storageGateCheck = s.storageGateCheck := rfl
@[simp] theorem State.setLsr8_addressCheck (a : Word) : (s.setLsr8 a).addressCheck = s.addressCheck := rfl
@[simp] theorem State.setLsr8_sb3 (a : Word) : (s.setLsr8 a).sb3 = s.sb3 := rfl
@[simp] theorem State.setLsr8_processorError (a : Word) : (s.setLsr8 a).processorError = s.processorError := rfl
@[simp] theorem State.setLsr8_level5 (a : Word) : (s.setLsr8 a).level5 = s.level5 := rfl
@[simp] theorem State.setLsr8_mem (a : Word) : (s.setLsr8 a).mem = s.mem := rfl
@[simp] theorem State.setLsr8_ceAddressStop (a : Word) : (s.setLsr8 a).ceAddressStop = s.ceAddressStop := rfl
@[simp] theorem State.setLsr8_cfg (a : Word) : (s.setLsr8 a).cfg = s.cfg := rfl
@[simp] theorem State.setLsr8_stopped (a : Word) : (s.setLsr8 a).stopped = s.stopped := rfl
@[simp] theorem State.setLsr8_compareHit (a : Word) : (s.setLsr8 a).compareHit = s.compareHit := rfl
@[simp] theorem State.setLsr8_freeCount (a : Word) : (s.setLsr8 a).freeCount = s.freeCount := rfl
@[simp] theorem State.setLsr8_host (a : Word) : (s.setLsr8 a).host = s.host := rfl

/-! ### `State.setLsr9` -/

@[simp] theorem State.setLsr9_lsrReserved (a : Word) : (s.setLsr9 a).lsrReserved = s.lsrReserved := rfl
@[simp] theorem State.setLsr9_lsr8 (a : Word) : (s.setLsr9 a).lsr8 = s.lsr8 := rfl
@[simp] theorem State.setLsr9_lsr9 (a : Word) : (s.setLsr9 a).lsr9 = a := rfl
@[simp] theorem State.setLsr9_iar (a : Word) : (s.setLsr9 a).iar = s.iar := rfl
@[simp] theorem State.setLsr9_lsr11Op (a : Word) : (s.setLsr9 a).lsr11Op = s.lsr11Op := rfl
@[simp] theorem State.setLsr9_lsr11Q (a : Word) : (s.setLsr9 a).lsr11Q = s.lsr11Q := rfl
@[simp] theorem State.setLsr9_xr1 (a : Word) : (s.setLsr9 a).xr1 = s.xr1 := rfl
@[simp] theorem State.setLsr9_xr2 (a : Word) : (s.setLsr9 a).xr2 = s.xr2 := rfl
@[simp] theorem State.setLsr9_arr (a : Word) : (s.setLsr9 a).arr = s.arr := rfl
@[simp] theorem State.setLsr9_lcrr (a : Word) : (s.setLsr9 a).lcrr = s.lcrr := rfl
@[simp] theorem State.setLsr9_psrLsr (a : Word) : (s.setLsr9 a).psrLsr = s.psrLsr := rfl
@[simp] theorem State.setLsr9_psr (a : Word) : (s.setLsr9 a).psr = s.psr := rfl
@[simp] theorem State.setLsr9_pmr (a : Word) : (s.setLsr9 a).pmr = s.pmr := rfl
@[simp] theorem State.setLsr9_opReg (a : Word) : (s.setLsr9 a).opReg = s.opReg := rfl
@[simp] theorem State.setLsr9_qReg (a : Word) : (s.setLsr9 a).qReg = s.qReg := rfl
@[simp] theorem State.setLsr9_qBackup (a : Word) : (s.setLsr9 a).qBackup = s.qBackup := rfl
@[simp] theorem State.setLsr9_xHigh (a : Word) : (s.setLsr9 a).xHigh = s.xHigh := rfl
@[simp] theorem State.setLsr9_xLow (a : Word) : (s.setLsr9 a).xLow = s.xLow := rfl
@[simp] theorem State.setLsr9_y (a : Word) : (s.setLsr9 a).y = s.y := rfl
@[simp] theorem State.setLsr9_msar (a : Word) : (s.setLsr9 a).msar = s.msar := rfl
@[simp] theorem State.setLsr9_firstCycle (a : Word) : (s.setLsr9 a).firstCycle = s.firstCycle := rfl
@[simp] theorem State.setLsr9_complement (a : Word) : (s.setLsr9 a).complement = s.complement := rfl
@[simp] theorem State.setLsr9_recomplement (a : Word) : (s.setLsr9 a).recomplement = s.recomplement := rfl
@[simp] theorem State.setLsr9_carry (a : Word) : (s.setLsr9 a).carry = s.carry := rfl
@[simp] theorem State.setLsr9_stepMode (a : Word) : (s.setLsr9 a).stepMode = s.stepMode := rfl
@[simp] theorem State.setLsr9_clockRun (a : Word) : (s.setLsr9 a).clockRun = s.clockRun := rfl
@[simp] theorem State.setLsr9_clock (a : Word) : (s.setLsr9 a).clock = s.clock := rfl
@[simp] theorem State.setLsr9_atr (a : Word) : (s.setLsr9 a).atr = s.atr := rfl
@[simp] theorem State.setLsr9_cmr (a : Word) : (s.setLsr9 a).cmr = s.cmr := rfl
@[simp] theorem State.setLsr9_bmr (a : Word) : (s.setLsr9 a).bmr = s.bmr := rfl
@[simp] theorem State.setLsr9_ccr (a : Word) : (s.setLsr9 a).ccr = s.ccr := rfl
@[simp] theorem State.setLsr9_acr (a : Word) : (s.setLsr9 a).acr = s.acr := rfl
@[simp] theorem State.setLsr9_nonexecutable (a : Word) : (s.setLsr9 a).nonexecutable = s.nonexecutable := rfl
@[simp] theorem State.setLsr9_controlGateCheck (a : Word) : (s.setLsr9 a).controlGateCheck = s.controlGateCheck := rfl
@[simp] theorem State.setLsr9_lsrGateCheck (a : Word) : (s.setLsr9 a).lsrGateCheck = s.lsrGateCheck := rfl
@[simp] theorem State.setLsr9_storageGateCheck (a : Word) : (s.setLsr9 a).storageGateCheck = s.storageGateCheck := rfl
@[simp] theorem State.setLsr9_addressCheck (a : Word) : (s.setLsr9 a).addressCheck = s.addressCheck := rfl
@[simp] theorem State.setLsr9_sb3 (a : Word) : (s.setLsr9 a).sb3 = s.sb3 := rfl
@[simp] theorem State.setLsr9_processorError (a : Word) : (s.setLsr9 a).processorError = s.processorError := rfl
@[simp] theorem State.setLsr9_level5 (a : Word) : (s.setLsr9 a).level5 = s.level5 := rfl
@[simp] theorem State.setLsr9_mem (a : Word) : (s.setLsr9 a).mem = s.mem := rfl
@[simp] theorem State.setLsr9_ceAddressStop (a : Word) : (s.setLsr9 a).ceAddressStop = s.ceAddressStop := rfl
@[simp] theorem State.setLsr9_cfg (a : Word) : (s.setLsr9 a).cfg = s.cfg := rfl
@[simp] theorem State.setLsr9_stopped (a : Word) : (s.setLsr9 a).stopped = s.stopped := rfl
@[simp] theorem State.setLsr9_compareHit (a : Word) : (s.setLsr9 a).compareHit = s.compareHit := rfl
@[simp] theorem State.setLsr9_freeCount (a : Word) : (s.setLsr9 a).freeCount = s.freeCount := rfl
@[simp] theorem State.setLsr9_host (a : Word) : (s.setLsr9 a).host = s.host := rfl

/-! ### `State.freeMsar` -/

@[simp] theorem State.freeMsar_lsrReserved : (s.freeMsar).lsrReserved = s.lsrReserved := rfl
@[simp] theorem State.freeMsar_lsr8 : (s.freeMsar).lsr8 = s.lsr8 := rfl
@[simp] theorem State.freeMsar_lsr9 : (s.freeMsar).lsr9 = s.lsr9 := rfl
@[simp] theorem State.freeMsar_iar : (s.freeMsar).iar = s.iar := rfl
@[simp] theorem State.freeMsar_lsr11Op : (s.freeMsar).lsr11Op = s.lsr11Op := rfl
@[simp] theorem State.freeMsar_lsr11Q : (s.freeMsar).lsr11Q = s.lsr11Q := rfl
@[simp] theorem State.freeMsar_xr1 : (s.freeMsar).xr1 = s.xr1 := rfl
@[simp] theorem State.freeMsar_xr2 : (s.freeMsar).xr2 = s.xr2 := rfl
@[simp] theorem State.freeMsar_arr : (s.freeMsar).arr = s.arr := rfl
@[simp] theorem State.freeMsar_lcrr : (s.freeMsar).lcrr = s.lcrr := rfl
@[simp] theorem State.freeMsar_psrLsr : (s.freeMsar).psrLsr = s.psrLsr := rfl
@[simp] theorem State.freeMsar_psr : (s.freeMsar).psr = s.psr := rfl
@[simp] theorem State.freeMsar_pmr : (s.freeMsar).pmr = s.pmr := rfl
@[simp] theorem State.freeMsar_opReg : (s.freeMsar).opReg = s.opReg := rfl
@[simp] theorem State.freeMsar_qReg : (s.freeMsar).qReg = s.qReg := rfl
@[simp] theorem State.freeMsar_qBackup : (s.freeMsar).qBackup = s.qBackup := rfl
@[simp] theorem State.freeMsar_xHigh : (s.freeMsar).xHigh = s.xHigh := rfl
@[simp] theorem State.freeMsar_xLow : (s.freeMsar).xLow = s.xLow := rfl
@[simp] theorem State.freeMsar_y : (s.freeMsar).y = s.y := rfl
@[simp] theorem State.freeMsar_firstCycle : (s.freeMsar).firstCycle = s.firstCycle := rfl
@[simp] theorem State.freeMsar_complement : (s.freeMsar).complement = s.complement := rfl
@[simp] theorem State.freeMsar_recomplement : (s.freeMsar).recomplement = s.recomplement := rfl
@[simp] theorem State.freeMsar_carry : (s.freeMsar).carry = s.carry := rfl
@[simp] theorem State.freeMsar_stepMode : (s.freeMsar).stepMode = s.stepMode := rfl
@[simp] theorem State.freeMsar_clockRun : (s.freeMsar).clockRun = s.clockRun := rfl
@[simp] theorem State.freeMsar_clock : (s.freeMsar).clock = s.clock := rfl
@[simp] theorem State.freeMsar_atr : (s.freeMsar).atr = s.atr := rfl
@[simp] theorem State.freeMsar_cmr : (s.freeMsar).cmr = s.cmr := rfl
@[simp] theorem State.freeMsar_bmr : (s.freeMsar).bmr = s.bmr := rfl
@[simp] theorem State.freeMsar_ccr : (s.freeMsar).ccr = s.ccr := rfl
@[simp] theorem State.freeMsar_acr : (s.freeMsar).acr = s.acr := rfl
@[simp] theorem State.freeMsar_nonexecutable : (s.freeMsar).nonexecutable = s.nonexecutable := rfl
@[simp] theorem State.freeMsar_controlGateCheck : (s.freeMsar).controlGateCheck = s.controlGateCheck := rfl
@[simp] theorem State.freeMsar_lsrGateCheck : (s.freeMsar).lsrGateCheck = s.lsrGateCheck := rfl
@[simp] theorem State.freeMsar_storageGateCheck : (s.freeMsar).storageGateCheck = s.storageGateCheck := rfl
@[simp] theorem State.freeMsar_addressCheck : (s.freeMsar).addressCheck = s.addressCheck := rfl
@[simp] theorem State.freeMsar_sb3 : (s.freeMsar).sb3 = s.sb3 := rfl
@[simp] theorem State.freeMsar_processorError : (s.freeMsar).processorError = s.processorError := rfl
@[simp] theorem State.freeMsar_level5 : (s.freeMsar).level5 = s.level5 := rfl
@[simp] theorem State.freeMsar_mem : (s.freeMsar).mem = s.mem := rfl
@[simp] theorem State.freeMsar_ceAddressStop : (s.freeMsar).ceAddressStop = s.ceAddressStop := rfl
@[simp] theorem State.freeMsar_cfg : (s.freeMsar).cfg = s.cfg := rfl
@[simp] theorem State.freeMsar_stopped : (s.freeMsar).stopped = s.stopped := rfl
@[simp] theorem State.freeMsar_compareHit : (s.freeMsar).compareHit = s.compareHit := rfl
@[simp] theorem State.freeMsar_freeCount : (s.freeMsar).freeCount = s.freeCount + 1 := rfl
@[simp] theorem State.freeMsar_host : (s.freeMsar).host = s.host := rfl

/-! ### `State.cpCheck` -/

@[simp] theorem State.cpCheck_lsrReserved (e : Byte) : (s.cpCheck e).lsrReserved = s.lsrReserved := rfl
@[simp] theorem State.cpCheck_lsr8 (e : Byte) : (s.cpCheck e).lsr8 = s.lsr8 := rfl
@[simp] theorem State.cpCheck_lsr9 (e : Byte) : (s.cpCheck e).lsr9 = s.lsr9 := rfl
@[simp] theorem State.cpCheck_iar (e : Byte) : (s.cpCheck e).iar = s.iar := rfl
@[simp] theorem State.cpCheck_lsr11Op (e : Byte) : (s.cpCheck e).lsr11Op = s.lsr11Op := rfl
@[simp] theorem State.cpCheck_lsr11Q (e : Byte) : (s.cpCheck e).lsr11Q = s.lsr11Q := rfl
@[simp] theorem State.cpCheck_xr1 (e : Byte) : (s.cpCheck e).xr1 = s.xr1 := rfl
@[simp] theorem State.cpCheck_xr2 (e : Byte) : (s.cpCheck e).xr2 = s.xr2 := rfl
@[simp] theorem State.cpCheck_arr (e : Byte) : (s.cpCheck e).arr = s.arr := rfl
@[simp] theorem State.cpCheck_lcrr (e : Byte) : (s.cpCheck e).lcrr = s.lcrr := rfl
@[simp] theorem State.cpCheck_psrLsr (e : Byte) : (s.cpCheck e).psrLsr = s.psrLsr := rfl
@[simp] theorem State.cpCheck_psr (e : Byte) : (s.cpCheck e).psr = s.psr := rfl
@[simp] theorem State.cpCheck_pmr (e : Byte) : (s.cpCheck e).pmr = s.pmr := rfl
@[simp] theorem State.cpCheck_opReg (e : Byte) : (s.cpCheck e).opReg = s.opReg := rfl
@[simp] theorem State.cpCheck_qReg (e : Byte) : (s.cpCheck e).qReg = s.qReg := rfl
@[simp] theorem State.cpCheck_qBackup (e : Byte) : (s.cpCheck e).qBackup = s.qBackup := rfl
@[simp] theorem State.cpCheck_xHigh (e : Byte) : (s.cpCheck e).xHigh = s.xHigh := rfl
@[simp] theorem State.cpCheck_xLow (e : Byte) : (s.cpCheck e).xLow = s.xLow := rfl
@[simp] theorem State.cpCheck_y (e : Byte) : (s.cpCheck e).y = s.y := rfl
@[simp] theorem State.cpCheck_msar (e : Byte) : (s.cpCheck e).msar = s.msar := rfl
@[simp] theorem State.cpCheck_firstCycle (e : Byte) : (s.cpCheck e).firstCycle = s.firstCycle := rfl
@[simp] theorem State.cpCheck_complement (e : Byte) : (s.cpCheck e).complement = s.complement := rfl
@[simp] theorem State.cpCheck_recomplement (e : Byte) : (s.cpCheck e).recomplement = s.recomplement := rfl
@[simp] theorem State.cpCheck_carry (e : Byte) : (s.cpCheck e).carry = s.carry := rfl
@[simp] theorem State.cpCheck_stepMode (e : Byte) : (s.cpCheck e).stepMode = s.stepMode := rfl
@[simp] theorem State.cpCheck_clockRun (e : Byte) : (s.cpCheck e).clockRun = s.clockRun := rfl
@[simp] theorem State.cpCheck_clock (e : Byte) : (s.cpCheck e).clock = s.clock := rfl
@[simp] theorem State.cpCheck_atr (e : Byte) : (s.cpCheck e).atr = s.atr := rfl
@[simp] theorem State.cpCheck_cmr (e : Byte) : (s.cpCheck e).cmr = s.cmr := rfl
@[simp] theorem State.cpCheck_bmr (e : Byte) : (s.cpCheck e).bmr = s.bmr := rfl
@[simp] theorem State.cpCheck_ccr (e : Byte) : (s.cpCheck e).ccr = s.ccr := rfl
@[simp] theorem State.cpCheck_acr (e : Byte) : (s.cpCheck e).acr = s.acr := rfl
@[simp] theorem State.cpCheck_nonexecutable (e : Byte) : (s.cpCheck e).nonexecutable = s.nonexecutable := rfl
@[simp] theorem State.cpCheck_controlGateCheck (e : Byte) : (s.cpCheck e).controlGateCheck = s.controlGateCheck := rfl
@[simp] theorem State.cpCheck_lsrGateCheck (e : Byte) : (s.cpCheck e).lsrGateCheck = s.lsrGateCheck := rfl
@[simp] theorem State.cpCheck_storageGateCheck (e : Byte) : (s.cpCheck e).storageGateCheck = s.storageGateCheck := rfl
@[simp] theorem State.cpCheck_addressCheck (e : Byte) : (s.cpCheck e).addressCheck = s.addressCheck := rfl
@[simp] theorem State.cpCheck_sb3 (e : Byte) : (s.cpCheck e).sb3 = s.sb3 := rfl
@[simp] theorem State.cpCheck_processorError (e : Byte) : (s.cpCheck e).processorError = (s.processorError &&& 0xFC) ||| e := rfl
@[simp] theorem State.cpCheck_level5 (e : Byte) : (s.cpCheck e).level5 = s.level5 := rfl
@[simp] theorem State.cpCheck_mem (e : Byte) : (s.cpCheck e).mem = s.mem := rfl
@[simp] theorem State.cpCheck_ceAddressStop (e : Byte) : (s.cpCheck e).ceAddressStop = s.ceAddressStop := rfl
@[simp] theorem State.cpCheck_cfg (e : Byte) : (s.cpCheck e).cfg = s.cfg := rfl
@[simp] theorem State.cpCheck_stopped (e : Byte) : (s.cpCheck e).stopped = s.stopped := rfl
@[simp] theorem State.cpCheck_compareHit (e : Byte) : (s.cpCheck e).compareHit = s.compareHit := rfl
@[simp] theorem State.cpCheck_freeCount (e : Byte) : (s.cpCheck e).freeCount = s.freeCount := rfl
@[simp] theorem State.cpCheck_host (e : Byte) : (s.cpCheck e).host = s.host := rfl

/-! ### `State.resetSystem` -/

@[simp] theorem State.resetSystem_lsrReserved : (s.resetSystem).lsrReserved = s.lsrReserved := rfl
@[simp] theorem State.resetSystem_lsr8 : (s.resetSystem).lsr8 = s.lsr8 := rfl
@[simp] theorem State.resetSystem_lsr9 : (s.resetSystem).lsr9 = s.lsr9 := rfl
@[simp] theorem State.resetSystem_iar : (s.resetSystem).iar = s.iar := rfl
@[simp] theorem State.resetSystem_lsr11Op : (s.resetSystem).lsr11Op = s.lsr11Op := rfl
@[simp] theorem State.resetSystem_lsr11Q : (s.resetSystem).lsr11Q = s.lsr11Q := rfl
@[simp] theorem State.resetSystem_xr1 : (s.resetSystem).xr1 = s.xr1 := rfl
@[simp] theorem State.resetSystem_xr2 : (s.resetSystem).xr2 = s.xr2 := rfl
@[simp] theorem State.resetSystem_arr : (s.resetSystem).arr = s.arr := rfl
@[simp] theorem State.resetSystem_lcrr : (s.resetSystem).lcrr = s.lcrr := rfl
@[simp] theorem State.resetSystem_psrLsr : (s.resetSystem).psrLsr = s.psrLsr := rfl
@[simp] theorem State.resetSystem_psr : (s.resetSystem).psr = 0x01 := rfl
@[simp] theorem State.resetSystem_pmr : (s.resetSystem).pmr = s.pmr := rfl
@[simp] theorem State.resetSystem_opReg : (s.resetSystem).opReg = s.opReg := rfl
@[simp] theorem State.resetSystem_qReg : (s.resetSystem).qReg = s.qReg := rfl
@[simp] theorem State.resetSystem_qBackup : (s.resetSystem).qBackup = s.qBackup := rfl
@[simp] theorem State.resetSystem_xHigh : (s.resetSystem).xHigh = s.xHigh := rfl
@[simp] theorem State.resetSystem_xLow : (s.resetSystem).xLow = s.xLow := rfl
@[simp] theorem State.resetSystem_y : (s.resetSystem).y = s.y := rfl
@[simp] theorem State.resetSystem_msar : (s.resetSystem).msar = s.msar := rfl
@[simp] theorem State.resetSystem_firstCycle : (s.resetSystem).firstCycle = s.firstCycle := rfl
@[simp] theorem State.resetSystem_complement : (s.resetSystem).complement = s.complement := rfl
@[simp] theorem State.resetSystem_recomplement : (s.resetSystem).recomplement = s.recomplement := rfl
@[simp] theorem State.resetSystem_carry : (s.resetSystem).carry = s.carry := rfl
@[simp] theorem State.resetSystem_stepMode : (s.resetSystem).stepMode = s.stepMode := rfl
@[simp] theorem State.resetSystem_clockRun : (s.resetSystem).clockRun = false := rfl
@[simp] theorem State.resetSystem_clock : (s.resetSystem).clock = s.clock := rfl
@[simp] theorem State.resetSystem_atr : (s.resetSystem).atr = s.atr := rfl
@[simp] theorem State.resetSystem_cmr : (s.resetSystem).cmr = s.cmr := rfl
@[simp] theorem State.resetSystem_bmr : (s.resetSystem).bmr = s.bmr := rfl
@[simp] theorem State.resetSystem_ccr : (s.resetSystem).ccr = s.ccr := rfl
@[simp] theorem State.resetSystem_acr : (s.resetSystem).acr = s.acr := rfl
@[simp] theorem State.resetSystem_nonexecutable : (s.resetSystem).nonexecutable = s.nonexecutable := rfl
@[simp] theorem State.resetSystem_controlGateCheck : (s.resetSystem).controlGateCheck = s.controlGateCheck := rfl
@[simp] theorem State.resetSystem_lsrGateCheck : (s.resetSystem).lsrGateCheck = s.lsrGateCheck := rfl
@[simp] theorem State.resetSystem_storageGateCheck : (s.resetSystem).storageGateCheck = s.storageGateCheck := rfl
@[simp] theorem State.resetSystem_addressCheck : (s.resetSystem).addressCheck = s.addressCheck := rfl
@[simp] theorem State.resetSystem_sb3 : (s.resetSystem).sb3 = s.sb3 := rfl
@[simp] theorem State.resetSystem_processorError : (s.resetSystem).processorError = s.processorError := rfl
@[simp] theorem State.resetSystem_level5 : (s.resetSystem).level5 = s.level5 := rfl
@[simp] theorem State.resetSystem_mem : (s.resetSystem).mem = s.mem := rfl
@[simp] theorem State.resetSystem_ceAddressStop : (s.resetSystem).ceAddressStop = s.ceAddressStop := rfl
@[simp] theorem State.resetSystem_cfg : (s.resetSystem).cfg = s.cfg := rfl
@[simp] theorem State.resetSystem_stopped : (s.resetSystem).stopped = s.stopped := rfl
@[simp] theorem State.resetSystem_compareHit : (s.resetSystem).compareHit = s.compareHit := rfl
@[simp] theorem State.resetSystem_freeCount : (s.resetSystem).freeCount = s.freeCount := rfl
@[simp] theorem State.resetSystem_host : (s.resetSystem).host = s.host := rfl

/-! ### `State.checkReset` -/

@[simp] theorem State.checkReset_lsrReserved : (s.checkReset).lsrReserved = s.lsrReserved := rfl
@[simp] theorem State.checkReset_lsr8 : (s.checkReset).lsr8 = s.lsr8 := rfl
@[simp] theorem State.checkReset_lsr9 : (s.checkReset).lsr9 = s.lsr9 := rfl
@[simp] theorem State.checkReset_iar : (s.checkReset).iar = s.iar := rfl
@[simp] theorem State.checkReset_lsr11Op : (s.checkReset).lsr11Op = s.lsr11Op := rfl
@[simp] theorem State.checkReset_lsr11Q : (s.checkReset).lsr11Q = s.lsr11Q := rfl
@[simp] theorem State.checkReset_xr1 : (s.checkReset).xr1 = s.xr1 := rfl
@[simp] theorem State.checkReset_xr2 : (s.checkReset).xr2 = s.xr2 := rfl
@[simp] theorem State.checkReset_arr : (s.checkReset).arr = s.arr := rfl
@[simp] theorem State.checkReset_lcrr : (s.checkReset).lcrr = s.lcrr := rfl
@[simp] theorem State.checkReset_psrLsr : (s.checkReset).psrLsr = s.psrLsr := rfl
@[simp] theorem State.checkReset_psr : (s.checkReset).psr = s.psr := rfl
@[simp] theorem State.checkReset_pmr : (s.checkReset).pmr = s.pmr := rfl
@[simp] theorem State.checkReset_opReg : (s.checkReset).opReg = s.opReg := rfl
@[simp] theorem State.checkReset_qReg : (s.checkReset).qReg = s.qReg := rfl
@[simp] theorem State.checkReset_qBackup : (s.checkReset).qBackup = s.qBackup := rfl
@[simp] theorem State.checkReset_xHigh : (s.checkReset).xHigh = s.xHigh := rfl
@[simp] theorem State.checkReset_xLow : (s.checkReset).xLow = s.xLow := rfl
@[simp] theorem State.checkReset_y : (s.checkReset).y = s.y := rfl
@[simp] theorem State.checkReset_msar : (s.checkReset).msar = s.msar := rfl
@[simp] theorem State.checkReset_firstCycle : (s.checkReset).firstCycle = s.firstCycle := rfl
@[simp] theorem State.checkReset_complement : (s.checkReset).complement = s.complement := rfl
@[simp] theorem State.checkReset_recomplement : (s.checkReset).recomplement = s.recomplement := rfl
@[simp] theorem State.checkReset_carry : (s.checkReset).carry = s.carry := rfl
@[simp] theorem State.checkReset_stepMode : (s.checkReset).stepMode = s.stepMode := rfl
@[simp] theorem State.checkReset_clockRun : (s.checkReset).clockRun = s.clockRun := rfl
@[simp] theorem State.checkReset_clock : (s.checkReset).clock = s.clock := rfl
@[simp] theorem State.checkReset_atr : (s.checkReset).atr = s.atr := rfl
@[simp] theorem State.checkReset_cmr : (s.checkReset).cmr = s.cmr := rfl
@[simp] theorem State.checkReset_bmr : (s.checkReset).bmr = s.bmr := rfl
@[simp] theorem State.checkReset_ccr : (s.checkReset).ccr = s.ccr := rfl
@[simp] theorem State.checkReset_acr : (s.checkReset).acr = s.acr := rfl
@[simp] theorem State.checkReset_nonexecutable : (s.checkReset).nonexecutable = s.nonexecutable := rfl
@[simp] theorem State.checkReset_controlGateCheck : (s.checkReset).controlGateCheck = false := rfl
@[simp] theorem State.checkReset_lsrGateCheck : (s.checkReset).lsrGateCheck = false := rfl
@[simp] theorem State.checkReset_storageGateCheck : (s.checkReset).storageGateCheck = false := rfl
@[simp] theorem State.checkReset_addressCheck : (s.checkReset).addressCheck = false := rfl
@[simp] theorem State.checkReset_sb3 : (s.checkReset).sb3 = s.sb3 := rfl
@[simp] theorem State.checkReset_processorError : (s.checkReset).processorError = s.processorError := rfl
@[simp] theorem State.checkReset_level5 : (s.checkReset).level5 = s.level5 := rfl
@[simp] theorem State.checkReset_mem : (s.checkReset).mem = s.mem := rfl
@[simp] theorem State.checkReset_ceAddressStop : (s.checkReset).ceAddressStop = s.ceAddressStop := rfl
@[simp] theorem State.checkReset_cfg : (s.checkReset).cfg = s.cfg := rfl
@[simp] theorem State.checkReset_stopped : (s.checkReset).stopped = s.stopped := rfl
@[simp] theorem State.checkReset_compareHit : (s.checkReset).compareHit = s.compareHit := rfl
@[simp] theorem State.checkReset_freeCount : (s.checkReset).freeCount = s.freeCount := rfl
@[simp] theorem State.checkReset_host : (s.checkReset).host = s.host := rfl

/-! ### `State.clearCompare` -/

@[simp] theorem State.clearCompare_lsrReserved : (s.clearCompare).lsrReserved = s.lsrReserved := rfl
@[simp] theorem State.clearCompare_lsr8 : (s.clearCompare).lsr8 = s.lsr8 := rfl
@[simp] theorem State.clearCompare_lsr9 : (s.clearCompare).lsr9 = s.lsr9 := rfl
@[simp] theorem State.clearCompare_iar : (s.clearCompare).iar = s.iar := rfl
@[simp] theorem State.clearCompare_lsr11Op : (s.clearCompare).lsr11Op = s.lsr11Op := rfl
@[simp] theorem State.clearCompare_lsr11Q : (s.clearCompare).lsr11Q = s.lsr11Q := rfl
@[simp] theorem State.clearCompare_xr1 : (s.clearCompare).xr1 = s.xr1 := rfl
@[simp] theorem State.clearCompare_xr2 : (s.clearCompare).xr2 = s.xr2 := rfl
@[simp] theorem State.clearCompare_arr : (s.clearCompare).arr = s.arr := rfl
@[simp] theorem State.clearCompare_lcrr : (s.clearCompare).lcrr = s.lcrr := rfl
@[simp] theorem State.clearCompare_psrLsr : (s.clearCompare).psrLsr = s.psrLsr := rfl
@[simp] theorem State.clearCompare_psr : (s.clearCompare).psr = s.psr := rfl
@[simp] theorem State.clearCompare_pmr : (s.clearCompare).pmr = s.pmr := rfl
@[simp] theorem State.clearCompare_opReg : (s.clearCompare).opReg = s.opReg := rfl
@[simp] theorem State.clearCompare_qReg : (s.clearCompare).qReg = s.qReg := rfl
@[simp] theorem State.clearCompare_qBackup : (s.clearCompare).qBackup = s.qBackup := rfl
@[simp] theorem State.clearCompare_xHigh : (s.clearCompare).xHigh = s.xHigh := rfl
@[simp] theorem State.clearCompare_xLow : (s.clearCompare).xLow = s.xLow := rfl
@[simp] theorem State.clearCompare_y : (s.clearCompare).y = s.y := rfl
@[simp] theorem State.clearCompare_msar : (s.clearCompare).msar = s.msar := rfl
@[simp] theorem State.clearCompare_firstCycle : (s.clearCompare).firstCycle = s.firstCycle := rfl
@[simp] theorem State.clearCompare_complement : (s.clearCompare).complement = s.complement := rfl
@[simp] theorem State.clearCompare_recomplement : (s.clearCompare).recomplement = s.recomplement := rfl
@[simp] theorem State.clearCompare_carry : (s.clearCompare).carry = s.carry := rfl
@[simp] theorem State.clearCompare_stepMode : (s.clearCompare).stepMode = s.stepMode := rfl
@[simp] theorem State.clearCompare_clockRun : (s.clearCompare).clockRun = s.clockRun := rfl
@[simp] theorem State.clearCompare_clock : (s.clearCompare).clock = s.clock := rfl
@[simp] theorem State.clearCompare_atr : (s.clearCompare).atr = s.atr := rfl
@[simp] theorem State.clearCompare_cmr : (s.clearCompare).cmr = s.cmr := rfl
@[simp] theorem State.clearCompare_bmr : (s.clearCompare).bmr = s.bmr := rfl
@[simp] theorem State.clearCompare_ccr : (s.clearCompare).ccr = s.ccr := rfl
@[simp] theorem State.clearCompare_acr : (s.clearCompare).acr = s.acr := rfl
@[simp] theorem State.clearCompare_nonexecutable : (s.clearCompare).nonexecutable = s.nonexecutable := rfl
@[simp] theorem State.clearCompare_controlGateCheck : (s.clearCompare).controlGateCheck = s.controlGateCheck := rfl
@[simp] theorem State.clearCompare_lsrGateCheck : (s.clearCompare).lsrGateCheck = s.lsrGateCheck := rfl
@[simp] theorem State.clearCompare_storageGateCheck : (s.clearCompare).storageGateCheck = s.storageGateCheck := rfl
@[simp] theorem State.clearCompare_addressCheck : (s.clearCompare).addressCheck = s.addressCheck := rfl
@[simp] theorem State.clearCompare_sb3 : (s.clearCompare).sb3 = s.sb3 := rfl
@[simp] theorem State.clearCompare_processorError : (s.clearCompare).processorError = s.processorError := rfl
@[simp] theorem State.clearCompare_level5 : (s.clearCompare).level5 = s.level5 := rfl
@[simp] theorem State.clearCompare_mem : (s.clearCompare).mem = s.mem := rfl
@[simp] theorem State.clearCompare_ceAddressStop : (s.clearCompare).ceAddressStop = s.ceAddressStop := rfl
@[simp] theorem State.clearCompare_cfg : (s.clearCompare).cfg = s.cfg := rfl
@[simp] theorem State.clearCompare_stopped : (s.clearCompare).stopped = s.stopped := rfl
@[simp] theorem State.clearCompare_compareHit : (s.clearCompare).compareHit = false := rfl
@[simp] theorem State.clearCompare_freeCount : (s.clearCompare).freeCount = s.freeCount := rfl
@[simp] theorem State.clearCompare_host : (s.clearCompare).host = s.host := rfl

/-! ### `State.freeScratch` -/

@[simp] theorem State.freeScratch_lsrReserved : (s.freeScratch).lsrReserved = s.lsrReserved := rfl
@[simp] theorem State.freeScratch_lsr8 : (s.freeScratch).lsr8 = s.lsr8 := rfl
@[simp] theorem State.freeScratch_lsr9 : (s.freeScratch).lsr9 = s.lsr9 := rfl
@[simp] theorem State.freeScratch_iar : (s.freeScratch).iar = s.iar := rfl
@[simp] theorem State.freeScratch_lsr11Op : (s.freeScratch).lsr11Op = s.lsr11Op := rfl
@[simp] theorem State.freeScratch_lsr11Q : (s.freeScratch).lsr11Q = s.lsr11Q := rfl
@[simp] theorem State.freeScratch_xr1 : (s.freeScratch).xr1 = s.xr1 := rfl
@[simp] theorem State.freeScratch_xr2 : (s.freeScratch).xr2 = s.xr2 := rfl
@[simp] theorem State.freeScratch_arr : (s.freeScratch).arr = s.arr := rfl
@[simp] theorem State.freeScratch_lcrr : (s.freeScratch).lcrr = s.lcrr := rfl
@[simp] theorem State.freeScratch_psrLsr : (s.freeScratch).psrLsr = s.psrLsr := rfl
@[simp] theorem State.freeScratch_psr : (s.freeScratch).psr = s.psr := rfl
@[simp] theorem State.freeScratch_pmr : (s.freeScratch).pmr = s.pmr := rfl
@[simp] theorem State.freeScratch_opReg : (s.freeScratch).opReg = s.opReg := rfl
@[simp] theorem State.freeScratch_qReg : (s.freeScratch).qReg = s.qReg := rfl
@[simp] theorem State.freeScratch_qBackup : (s.freeScratch).qBackup = s.qBackup := rfl
@[simp] theorem State.freeScratch_msar : (s.freeScratch).msar = s.msar := rfl
@[simp] theorem State.freeScratch_firstCycle : (s.freeScratch).firstCycle = s.firstCycle := rfl
@[simp] theorem State.freeScratch_complement : (s.freeScratch).complement = s.complement := rfl
@[simp] theorem State.freeScratch_recomplement : (s.freeScratch).recomplement = s.recomplement := rfl
@[simp] theorem State.freeScratch_carry : (s.freeScratch).carry = s.carry := rfl
@[simp] theorem State.freeScratch_stepMode : (s.freeScratch).stepMode = s.stepMode := rfl
@[simp] theorem State.freeScratch_clockRun : (s.freeScratch).clockRun = s.clockRun := rfl
@[simp] theorem State.freeScratch_clock : (s.freeScratch).clock = s.clock := rfl
@[simp] theorem State.freeScratch_atr : (s.freeScratch).atr = s.atr := rfl
@[simp] theorem State.freeScratch_cmr : (s.freeScratch).cmr = s.cmr := rfl
@[simp] theorem State.freeScratch_bmr : (s.freeScratch).bmr = s.bmr := rfl
@[simp] theorem State.freeScratch_ccr : (s.freeScratch).ccr = s.ccr := rfl
@[simp] theorem State.freeScratch_acr : (s.freeScratch).acr = s.acr := rfl
@[simp] theorem State.freeScratch_nonexecutable : (s.freeScratch).nonexecutable = s.nonexecutable := rfl
@[simp] theorem State.freeScratch_controlGateCheck : (s.freeScratch).controlGateCheck = s.controlGateCheck := rfl
@[simp] theorem State.freeScratch_lsrGateCheck : (s.freeScratch).lsrGateCheck = s.lsrGateCheck := rfl
@[simp] theorem State.freeScratch_storageGateCheck : (s.freeScratch).storageGateCheck = s.storageGateCheck := rfl
@[simp] theorem State.freeScratch_addressCheck : (s.freeScratch).addressCheck = s.addressCheck := rfl
@[simp] theorem State.freeScratch_sb3 : (s.freeScratch).sb3 = s.sb3 := rfl
@[simp] theorem State.freeScratch_processorError : (s.freeScratch).processorError = s.processorError := rfl
@[simp] theorem State.freeScratch_level5 : (s.freeScratch).level5 = s.level5 := rfl
@[simp] theorem State.freeScratch_mem : (s.freeScratch).mem = s.mem := rfl
@[simp] theorem State.freeScratch_ceAddressStop : (s.freeScratch).ceAddressStop = s.ceAddressStop := rfl
@[simp] theorem State.freeScratch_cfg : (s.freeScratch).cfg = s.cfg := rfl
@[simp] theorem State.freeScratch_stopped : (s.freeScratch).stopped = s.stopped := rfl
@[simp] theorem State.freeScratch_compareHit : (s.freeScratch).compareHit = s.compareHit := rfl
@[simp] theorem State.freeScratch_host : (s.freeScratch).host = s.host := rfl

/-! ### `State.countQ` -/

@[simp] theorem State.countQ_lsrReserved : (s.countQ).lsrReserved = s.lsrReserved := by unfold State.countQ; split <;> rfl
@[simp] theorem State.countQ_lsr8 : (s.countQ).lsr8 = s.lsr8 := by unfold State.countQ; split <;> rfl
@[simp] theorem State.countQ_lsr9 : (s.countQ).lsr9 = s.lsr9 := by unfold State.countQ; split <;> rfl
@[simp] theorem State.countQ_iar : (s.countQ).iar = s.iar := by unfold State.countQ; split <;> rfl
@[simp] theorem State.countQ_lsr11Op : (s.countQ).lsr11Op = s.lsr11Op := by unfold State.countQ; split <;> rfl
@[simp] theorem State.countQ_lsr11Q : (s.countQ).lsr11Q = s.lsr11Q := by unfold State.countQ; split <;> rfl
@[simp] theorem State.countQ_xr1 : (s.countQ).xr1 = s.xr1 := by unfold State.countQ; split <;> rfl
@[simp] theorem State.countQ_xr2 : (s.countQ).xr2 = s.xr2 := by unfold State.countQ; split <;> rfl
@[simp] theorem State.countQ_arr : (s.countQ).arr = s.arr := by unfold State.countQ; split <;> rfl
@[simp] theorem State.countQ_lcrr : (s.countQ).lcrr = s.lcrr := by unfold State.countQ; split <;> rfl
@[simp] theorem State.countQ_psrLsr : (s.countQ).psrLsr = s.psrLsr := by unfold State.countQ; split <;> rfl
@[simp] theorem State.countQ_psr : (s.countQ).psr = s.psr := by unfold State.countQ; split <;> rfl
@[simp] theorem State.countQ_pmr : (s.countQ).pmr = s.pmr := by unfold State.countQ; split <;> rfl
@[simp] theorem State.countQ_opReg : (s.countQ).opReg = s.opReg := by unfold State.countQ; split <;> rfl
@[simp] theorem State.countQ_qBackup : (s.countQ).qBackup = s.qBackup := by unfold State.countQ; split <;> rfl
@[simp] theorem State.countQ_xHigh : (s.countQ).xHigh = s.xHigh := by unfold State.countQ; split <;> rfl
@[simp] theorem State.countQ_xLow : (s.countQ).xLow = s.xLow := by unfold State.countQ; split <;> rfl
@[simp] theorem State.countQ_y : (s.countQ).y = s.y := by unfold State.countQ; split <;> rfl
@[simp] theorem State.countQ_msar : (s.countQ).msar = s.msar := by unfold State.countQ; split <;> rfl
@[simp] theorem State.countQ_firstCycle : (s.countQ).firstCycle = s.firstCycle := by unfold State.countQ; split <;> rfl
@[simp] theorem State.countQ_complement : (s.countQ).complement = s.complement := by unfold State.countQ; split <;> rfl
@[simp] theorem State.countQ_recomplement : (s.countQ).recomplement = s.recomplement := by unfold State.countQ; split <;> rfl
@[simp] theorem State.countQ_carry : (s.countQ).carry = s.carry := by unfold State.countQ; split <;> rfl
@[simp] theorem State.countQ_stepMode : (s.countQ).stepMode = s.stepMode := by unfold State.countQ; split <;> rfl
@[simp] theorem State.countQ_clockRun : (s.countQ).clockRun = s.clockRun := by unfold State.countQ; split <;> rfl
@[simp] theorem State.countQ_clock : (s.countQ).clock = s.clock := by unfold State.countQ; split <;> rfl
@[simp] theorem State.countQ_atr : (s.countQ).atr = s.atr := by unfold State.countQ; split <;> rfl
@[simp] theorem State.countQ_cmr : (s.countQ).cmr = s.cmr := by unfold State.countQ; split <;> rfl
@[simp] theorem State.countQ_bmr : (s.countQ).bmr = s.bmr := by unfold State.countQ; split <;> rfl
@[simp] theorem State.countQ_ccr : (s.countQ).ccr = s.ccr := by unfold State.countQ; split <;> rfl
@[simp] theorem State.countQ_acr : (s.countQ).acr = s.acr := by unfold State.countQ; split <;> rfl
@[simp] theorem State.countQ_nonexecutable : (s.countQ).nonexecutable = s.nonexecutable := by unfold State.countQ; split <;> rfl
@[simp] theorem State.countQ_controlGateCheck : (s.countQ).controlGateCheck = s.controlGateCheck := by unfold State.countQ; split <;> rfl
@[simp] theorem State.countQ_lsrGateCheck : (s.countQ).lsrGateCheck = s.lsrGateCheck := by unfold State.countQ; split <;> rfl
@[simp] theorem State.countQ_storageGateCheck : (s.countQ).storageGateCheck = s.storageGateCheck := by unfold State.countQ; split <;> rfl
@[simp] theorem State.countQ_addressCheck : (s.countQ).addressCheck = s.addressCheck := by unfold State.countQ; split <;> rfl
@[simp] theorem State.countQ_sb3 : (s.countQ).sb3 = s.sb3 := by unfold State.countQ; split <;> rfl
@[simp] theorem State.countQ_processorError : (s.countQ).processorError = s.processorError := by unfold State.countQ; split <;> rfl
@[simp] theorem State.countQ_level5 : (s.countQ).level5 = s.level5 := by unfold State.countQ; split <;> rfl
@[simp] theorem State.countQ_mem : (s.countQ).mem = s.mem := by unfold State.countQ; split <;> rfl
@[simp] theorem State.countQ_ceAddressStop : (s.countQ).ceAddressStop = s.ceAddressStop := by unfold State.countQ; split <;> rfl
@[simp] theorem State.countQ_cfg : (s.countQ).cfg = s.cfg := by unfold State.countQ; split <;> rfl
@[simp] theorem State.countQ_stopped : (s.countQ).stopped = s.stopped := by unfold State.countQ; split <;> rfl
@[simp] theorem State.countQ_compareHit : (s.countQ).compareHit = s.compareHit := by unfold State.countQ; split <;> rfl
@[simp] theorem State.countQ_freeCount : (s.countQ).freeCount = s.freeCount := by unfold State.countQ; split <;> rfl
@[simp] theorem State.countQ_host : (s.countQ).host = s.host := by unfold State.countQ; split <;> rfl

/-! ### `State.countDecimalQ` -/

@[simp] theorem State.countDecimalQ_lsrReserved : (s.countDecimalQ).lsrReserved = s.lsrReserved := by unfold State.countDecimalQ; split <;> rfl
@[simp] theorem State.countDecimalQ_lsr8 : (s.countDecimalQ).lsr8 = s.lsr8 := by unfold State.countDecimalQ; split <;> rfl
@[simp] theorem State.countDecimalQ_lsr9 : (s.countDecimalQ).lsr9 = s.lsr9 := by unfold State.countDecimalQ; split <;> rfl
@[simp] theorem State.countDecimalQ_iar : (s.countDecimalQ).iar = s.iar := by unfold State.countDecimalQ; split <;> rfl
@[simp] theorem State.countDecimalQ_lsr11Op : (s.countDecimalQ).lsr11Op = s.lsr11Op := by unfold State.countDecimalQ; split <;> rfl
@[simp] theorem State.countDecimalQ_lsr11Q : (s.countDecimalQ).lsr11Q = s.lsr11Q := by unfold State.countDecimalQ; split <;> rfl
@[simp] theorem State.countDecimalQ_xr1 : (s.countDecimalQ).xr1 = s.xr1 := by unfold State.countDecimalQ; split <;> rfl
@[simp] theorem State.countDecimalQ_xr2 : (s.countDecimalQ).xr2 = s.xr2 := by unfold State.countDecimalQ; split <;> rfl
@[simp] theorem State.countDecimalQ_arr : (s.countDecimalQ).arr = s.arr := by unfold State.countDecimalQ; split <;> rfl
@[simp] theorem State.countDecimalQ_lcrr : (s.countDecimalQ).lcrr = s.lcrr := by unfold State.countDecimalQ; split <;> rfl
@[simp] theorem State.countDecimalQ_psrLsr : (s.countDecimalQ).psrLsr = s.psrLsr := by unfold State.countDecimalQ; split <;> rfl
@[simp] theorem State.countDecimalQ_psr : (s.countDecimalQ).psr = s.psr := by unfold State.countDecimalQ; split <;> rfl
@[simp] theorem State.countDecimalQ_pmr : (s.countDecimalQ).pmr = s.pmr := by unfold State.countDecimalQ; split <;> rfl
@[simp] theorem State.countDecimalQ_opReg : (s.countDecimalQ).opReg = s.opReg := by unfold State.countDecimalQ; split <;> rfl
@[simp] theorem State.countDecimalQ_qBackup : (s.countDecimalQ).qBackup = s.qBackup := by unfold State.countDecimalQ; split <;> rfl
@[simp] theorem State.countDecimalQ_xHigh : (s.countDecimalQ).xHigh = s.xHigh := by unfold State.countDecimalQ; split <;> rfl
@[simp] theorem State.countDecimalQ_xLow : (s.countDecimalQ).xLow = s.xLow := by unfold State.countDecimalQ; split <;> rfl
@[simp] theorem State.countDecimalQ_y : (s.countDecimalQ).y = s.y := by unfold State.countDecimalQ; split <;> rfl
@[simp] theorem State.countDecimalQ_msar : (s.countDecimalQ).msar = s.msar := by unfold State.countDecimalQ; split <;> rfl
@[simp] theorem State.countDecimalQ_firstCycle : (s.countDecimalQ).firstCycle = s.firstCycle := by unfold State.countDecimalQ; split <;> rfl
@[simp] theorem State.countDecimalQ_complement : (s.countDecimalQ).complement = s.complement := by unfold State.countDecimalQ; split <;> rfl
@[simp] theorem State.countDecimalQ_recomplement : (s.countDecimalQ).recomplement = s.recomplement := by unfold State.countDecimalQ; split <;> rfl
@[simp] theorem State.countDecimalQ_carry : (s.countDecimalQ).carry = s.carry := by unfold State.countDecimalQ; split <;> rfl
@[simp] theorem State.countDecimalQ_stepMode : (s.countDecimalQ).stepMode = s.stepMode := by unfold State.countDecimalQ; split <;> rfl
@[simp] theorem State.countDecimalQ_clockRun : (s.countDecimalQ).clockRun = s.clockRun := by unfold State.countDecimalQ; split <;> rfl
@[simp] theorem State.countDecimalQ_clock : (s.countDecimalQ).clock = s.clock := by unfold State.countDecimalQ; split <;> rfl
@[simp] theorem State.countDecimalQ_atr : (s.countDecimalQ).atr = s.atr := by unfold State.countDecimalQ; split <;> rfl
@[simp] theorem State.countDecimalQ_cmr : (s.countDecimalQ).cmr = s.cmr := by unfold State.countDecimalQ; split <;> rfl
@[simp] theorem State.countDecimalQ_bmr : (s.countDecimalQ).bmr = s.bmr := by unfold State.countDecimalQ; split <;> rfl
@[simp] theorem State.countDecimalQ_ccr : (s.countDecimalQ).ccr = s.ccr := by unfold State.countDecimalQ; split <;> rfl
@[simp] theorem State.countDecimalQ_acr : (s.countDecimalQ).acr = s.acr := by unfold State.countDecimalQ; split <;> rfl
@[simp] theorem State.countDecimalQ_nonexecutable : (s.countDecimalQ).nonexecutable = s.nonexecutable := by unfold State.countDecimalQ; split <;> rfl
@[simp] theorem State.countDecimalQ_controlGateCheck : (s.countDecimalQ).controlGateCheck = s.controlGateCheck := by unfold State.countDecimalQ; split <;> rfl
@[simp] theorem State.countDecimalQ_lsrGateCheck : (s.countDecimalQ).lsrGateCheck = s.lsrGateCheck := by unfold State.countDecimalQ; split <;> rfl
@[simp] theorem State.countDecimalQ_storageGateCheck : (s.countDecimalQ).storageGateCheck = s.storageGateCheck := by unfold State.countDecimalQ; split <;> rfl
@[simp] theorem State.countDecimalQ_addressCheck : (s.countDecimalQ).addressCheck = s.addressCheck := by unfold State.countDecimalQ; split <;> rfl
@[simp] theorem State.countDecimalQ_sb3 : (s.countDecimalQ).sb3 = s.sb3 := by unfold State.countDecimalQ; split <;> rfl
@[simp] theorem State.countDecimalQ_processorError : (s.countDecimalQ).processorError = s.processorError := by unfold State.countDecimalQ; split <;> rfl
@[simp] theorem State.countDecimalQ_level5 : (s.countDecimalQ).level5 = s.level5 := by unfold State.countDecimalQ; split <;> rfl
@[simp] theorem State.countDecimalQ_mem : (s.countDecimalQ).mem = s.mem := by unfold State.countDecimalQ; split <;> rfl
@[simp] theorem State.countDecimalQ_ceAddressStop : (s.countDecimalQ).ceAddressStop = s.ceAddressStop := by unfold State.countDecimalQ; split <;> rfl
@[simp] theorem State.countDecimalQ_cfg : (s.countDecimalQ).cfg = s.cfg := by unfold State.countDecimalQ; split <;> rfl
@[simp] theorem State.countDecimalQ_stopped : (s.countDecimalQ).stopped = s.stopped := by unfold State.countDecimalQ; split <;> rfl
@[simp] theorem State.countDecimalQ_compareHit : (s.countDecimalQ).compareHit = s.compareHit := by unfold State.countDecimalQ; split <;> rfl
@[simp] theorem State.countDecimalQ_freeCount : (s.countDecimalQ).freeCount = s.freeCount := by unfold State.countDecimalQ; split <;> rfl
@[simp] theorem State.countDecimalQ_host : (s.countDecimalQ).host = s.host := by unfold State.countDecimalQ; split <;> rfl

/-! ### `State.loadIndex` -/

@[simp] theorem State.loadIndex_lsrReserved (q : Byte) (v : Word) : (s.loadIndex q v).lsrReserved = s.lsrReserved := by unfold State.loadIndex; split <;> rfl
@[simp] theorem State.loadIndex_lsr8 (q : Byte) (v : Word) : (s.loadIndex q v).lsr8 = s.lsr8 := by unfold State.loadIndex; split <;> rfl
@[simp] theorem State.loadIndex_lsr9 (q : Byte) (v : Word) : (s.loadIndex q v).lsr9 = s.lsr9 := by unfold State.loadIndex; split <;> rfl
@[simp] theorem State.loadIndex_iar (q : Byte) (v : Word) : (s.loadIndex q v).iar = s.iar := by unfold State.loadIndex; split <;> rfl
@[simp] theorem State.loadIndex_lsr11Op (q : Byte) (v : Word) : (s.loadIndex q v).lsr11Op = s.lsr11Op := by unfold State.loadIndex; split <;> rfl
@[simp] theorem State.loadIndex_lsr11Q (q : Byte) (v : Word) : (s.loadIndex q v).lsr11Q = s.lsr11Q := by unfold State.loadIndex; split <;> rfl
@[simp] theorem State.loadIndex_arr (q : Byte) (v : Word) : (s.loadIndex q v).arr = s.arr := by unfold State.loadIndex; split <;> rfl
@[simp] theorem State.loadIndex_lcrr (q : Byte) (v : Word) : (s.loadIndex q v).lcrr = s.lcrr := by unfold State.loadIndex; split <;> rfl
@[simp] theorem State.loadIndex_psrLsr (q : Byte) (v : Word) : (s.loadIndex q v).psrLsr = s.psrLsr := by unfold State.loadIndex; split <;> rfl
@[simp] theorem State.loadIndex_psr (q : Byte) (v : Word) : (s.loadIndex q v).psr = s.psr := by unfold State.loadIndex; split <;> rfl
@[simp] theorem State.loadIndex_pmr (q : Byte) (v : Word) : (s.loadIndex q v).pmr = s.pmr := by unfold State.loadIndex; split <;> rfl
@[simp] theorem State.loadIndex_opReg (q : Byte) (v : Word) : (s.loadIndex q v).opReg = s.opReg := by unfold State.loadIndex; split <;> rfl
@[simp] theorem State.loadIndex_qReg (q : Byte) (v : Word) : (s.loadIndex q v).qReg = s.qReg := by unfold State.loadIndex; split <;> rfl
@[simp] theorem State.loadIndex_qBackup (q : Byte) (v : Word) : (s.loadIndex q v).qBackup = s.qBackup := by unfold State.loadIndex; split <;> rfl
@[simp] theorem State.loadIndex_xHigh (q : Byte) (v : Word) : (s.loadIndex q v).xHigh = s.xHigh := by unfold State.loadIndex; split <;> rfl
@[simp] theorem State.loadIndex_xLow (q : Byte) (v : Word) : (s.loadIndex q v).xLow = s.xLow := by unfold State.loadIndex; split <;> rfl
@[simp] theorem State.loadIndex_y (q : Byte) (v : Word) : (s.loadIndex q v).y = s.y := by unfold State.loadIndex; split <;> rfl
@[simp] theorem State.loadIndex_msar (q : Byte) (v : Word) : (s.loadIndex q v).msar = s.msar := by unfold State.loadIndex; split <;> rfl
@[simp] theorem State.loadIndex_firstCycle (q : Byte) (v : Word) : (s.loadIndex q v).firstCycle = s.firstCycle := by unfold State.loadIndex; split <;> rfl
@[simp] theorem State.loadIndex_complement (q : Byte) (v : Word) : (s.loadIndex q v).complement = s.complement := by unfold State.loadIndex; split <;> rfl
@[simp] theorem State.loadIndex_recomplement (q : Byte) (v : Word) : (s.loadIndex q v).recomplement = s.recomplement := by unfold State.loadIndex; split <;> rfl
@[simp] theorem State.loadIndex_carry (q : Byte) (v : Word) : (s.loadIndex q v).carry = s.carry := by unfold State.loadIndex; split <;> rfl
@[simp] theorem State.loadIndex_stepMode (q : Byte) (v : Word) : (s.loadIndex q v).stepMode = s.stepMode := by unfold State.loadIndex; split <;> rfl
@[simp] theorem State.loadIndex_clockRun (q : Byte) (v : Word) : (s.loadIndex q v).clockRun = s.clockRun := by unfold State.loadIndex; split <;> rfl
@[simp] theorem State.loadIndex_clock (q : Byte) (v : Word) : (s.loadIndex q v).clock = s.clock := by unfold State.loadIndex; split <;> rfl
@[simp] theorem State.loadIndex_atr (q : Byte) (v : Word) : (s.loadIndex q v).atr = s.atr := by unfold State.loadIndex; split <;> rfl
@[simp] theorem State.loadIndex_cmr (q : Byte) (v : Word) : (s.loadIndex q v).cmr = s.cmr := by unfold State.loadIndex; split <;> rfl
@[simp] theorem State.loadIndex_bmr (q : Byte) (v : Word) : (s.loadIndex q v).bmr = s.bmr := by unfold State.loadIndex; split <;> rfl
@[simp] theorem State.loadIndex_ccr (q : Byte) (v : Word) : (s.loadIndex q v).ccr = s.ccr := by unfold State.loadIndex; split <;> rfl
@[simp] theorem State.loadIndex_acr (q : Byte) (v : Word) : (s.loadIndex q v).acr = s.acr := by unfold State.loadIndex; split <;> rfl
@[simp] theorem State.loadIndex_nonexecutable (q : Byte) (v : Word) : (s.loadIndex q v).nonexecutable = s.nonexecutable := by unfold State.loadIndex; split <;> rfl
@[simp] theorem State.loadIndex_controlGateCheck (q : Byte) (v : Word) : (s.loadIndex q v).controlGateCheck = s.controlGateCheck := by unfold State.loadIndex; split <;> rfl
@[simp] theorem State.loadIndex_lsrGateCheck (q : Byte) (v : Word) : (s.loadIndex q v).lsrGateCheck = s.lsrGateCheck := by unfold State.loadIndex; split <;> rfl
@[simp] theorem State.loadIndex_storageGateCheck (q : Byte) (v : Word) : (s.loadIndex q v).storageGateCheck = s.storageGateCheck := by unfold State.loadIndex; split <;> rfl
@[simp] theorem State.loadIndex_addressCheck (q : Byte) (v : Word) : (s.loadIndex q v).addressCheck = s.addressCheck := by unfold State.loadIndex; split <;> rfl
@[simp] theorem State.loadIndex_sb3 (q : Byte) (v : Word) : (s.loadIndex q v).sb3 = s.sb3 := by unfold State.loadIndex; split <;> rfl
@[simp] theorem State.loadIndex_processorError (q : Byte) (v : Word) : (s.loadIndex q v).processorError = s.processorError := by unfold State.loadIndex; split <;> rfl
@[simp] theorem State.loadIndex_level5 (q : Byte) (v : Word) : (s.loadIndex q v).level5 = s.level5 := by unfold State.loadIndex; split <;> rfl
@[simp] theorem State.loadIndex_mem (q : Byte) (v : Word) : (s.loadIndex q v).mem = s.mem := by unfold State.loadIndex; split <;> rfl
@[simp] theorem State.loadIndex_ceAddressStop (q : Byte) (v : Word) : (s.loadIndex q v).ceAddressStop = s.ceAddressStop := by unfold State.loadIndex; split <;> rfl
@[simp] theorem State.loadIndex_cfg (q : Byte) (v : Word) : (s.loadIndex q v).cfg = s.cfg := by unfold State.loadIndex; split <;> rfl
@[simp] theorem State.loadIndex_stopped (q : Byte) (v : Word) : (s.loadIndex q v).stopped = s.stopped := by unfold State.loadIndex; split <;> rfl
@[simp] theorem State.loadIndex_compareHit (q : Byte) (v : Word) : (s.loadIndex q v).compareHit = s.compareHit := by unfold State.loadIndex; split <;> rfl
@[simp] theorem State.loadIndex_freeCount (q : Byte) (v : Word) : (s.loadIndex q v).freeCount = s.freeCount := by unfold State.loadIndex; split <;> rfl
@[simp] theorem State.loadIndex_host (q : Byte) (v : Word) : (s.loadIndex q v).host = s.host := by unfold State.loadIndex; split <;> rfl

/-! ### `State.loadLow` -/

@[simp] theorem State.loadLow_lsrReserved (r : Reg) (b : Byte) : (s.loadLow r b).lsrReserved = s.lsrReserved := by cases r <;> rfl
@[simp] theorem State.loadLow_lsr8 (r : Reg) (b : Byte) : (s.loadLow r b).lsr8 = s.lsr8 := by cases r <;> rfl
@[simp] theorem State.loadLow_lsr9 (r : Reg) (b : Byte) : (s.loadLow r b).lsr9 = s.lsr9 := by cases r <;> rfl
@[simp] theorem State.loadLow_lsr11Op (r : Reg) (b : Byte) : (s.loadLow r b).lsr11Op = s.lsr11Op := by cases r <;> rfl
@[simp] theorem State.loadLow_lsr11Q (r : Reg) (b : Byte) : (s.loadLow r b).lsr11Q = s.lsr11Q := by cases r <;> rfl
@[simp] theorem State.loadLow_lcrr (r : Reg) (b : Byte) : (s.loadLow r b).lcrr = s.lcrr := by cases r <;> rfl
@[simp] theorem State.loadLow_pmr (r : Reg) (b : Byte) : (s.loadLow r b).pmr = s.pmr := by cases r <;> rfl
@[simp] theorem State.loadLow_opReg (r : Reg) (b : Byte) : (s.loadLow r b).opReg = s.opReg := by cases r <;> rfl
@[simp] theorem State.loadLow_qReg (r : Reg) (b : Byte) : (s.loadLow r b).qReg = s.qReg := by cases r <;> rfl
@[simp] theorem State.loadLow_qBackup (r : Reg) (b : Byte) : (s.loadLow r b).qBackup = s.qBackup := by cases r <;> rfl
@[simp] theorem State.loadLow_xHigh (r : Reg) (b : Byte) : (s.loadLow r b).xHigh = s.xHigh := by cases r <;> rfl
@[simp] theorem State.loadLow_xLow (r : Reg) (b : Byte) : (s.loadLow r b).xLow = s.xLow := by cases r <;> rfl
@[simp] theorem State.loadLow_y (r : Reg) (b : Byte) : (s.loadLow r b).y = s.y := by cases r <;> rfl
@[simp] theorem State.loadLow_msar (r : Reg) (b : Byte) : (s.loadLow r b).msar = s.msar := by cases r <;> rfl
@[simp] theorem State.loadLow_firstCycle (r : Reg) (b : Byte) : (s.loadLow r b).firstCycle = s.firstCycle := by cases r <;> rfl
@[simp] theorem State.loadLow_complement (r : Reg) (b : Byte) : (s.loadLow r b).complement = s.complement := by cases r <;> rfl
@[simp] theorem State.loadLow_recomplement (r : Reg) (b : Byte) : (s.loadLow r b).recomplement = s.recomplement := by cases r <;> rfl
@[simp] theorem State.loadLow_carry (r : Reg) (b : Byte) : (s.loadLow r b).carry = s.carry := by cases r <;> rfl
@[simp] theorem State.loadLow_stepMode (r : Reg) (b : Byte) : (s.loadLow r b).stepMode = s.stepMode := by cases r <;> rfl
@[simp] theorem State.loadLow_clockRun (r : Reg) (b : Byte) : (s.loadLow r b).clockRun = s.clockRun := by cases r <;> rfl
@[simp] theorem State.loadLow_clock (r : Reg) (b : Byte) : (s.loadLow r b).clock = s.clock := by cases r <;> rfl
@[simp] theorem State.loadLow_atr (r : Reg) (b : Byte) : (s.loadLow r b).atr = s.atr := by cases r <;> rfl
@[simp] theorem State.loadLow_cmr (r : Reg) (b : Byte) : (s.loadLow r b).cmr = s.cmr := by cases r <;> rfl
@[simp] theorem State.loadLow_bmr (r : Reg) (b : Byte) : (s.loadLow r b).bmr = s.bmr := by cases r <;> rfl
@[simp] theorem State.loadLow_ccr (r : Reg) (b : Byte) : (s.loadLow r b).ccr = s.ccr := by cases r <;> rfl
@[simp] theorem State.loadLow_acr (r : Reg) (b : Byte) : (s.loadLow r b).acr = s.acr := by cases r <;> rfl
@[simp] theorem State.loadLow_nonexecutable (r : Reg) (b : Byte) : (s.loadLow r b).nonexecutable = s.nonexecutable := by cases r <;> rfl
@[simp] theorem State.loadLow_controlGateCheck (r : Reg) (b : Byte) : (s.loadLow r b).controlGateCheck = s.controlGateCheck := by cases r <;> rfl
@[simp] theorem State.loadLow_lsrGateCheck (r : Reg) (b : Byte) : (s.loadLow r b).lsrGateCheck = s.lsrGateCheck := by cases r <;> rfl
@[simp] theorem State.loadLow_storageGateCheck (r : Reg) (b : Byte) : (s.loadLow r b).storageGateCheck = s.storageGateCheck := by cases r <;> rfl
@[simp] theorem State.loadLow_addressCheck (r : Reg) (b : Byte) : (s.loadLow r b).addressCheck = s.addressCheck := by cases r <;> rfl
@[simp] theorem State.loadLow_sb3 (r : Reg) (b : Byte) : (s.loadLow r b).sb3 = s.sb3 := by cases r <;> rfl
@[simp] theorem State.loadLow_processorError (r : Reg) (b : Byte) : (s.loadLow r b).processorError = s.processorError := by cases r <;> rfl
@[simp] theorem State.loadLow_level5 (r : Reg) (b : Byte) : (s.loadLow r b).level5 = s.level5 := by cases r <;> rfl
@[simp] theorem State.loadLow_mem (r : Reg) (b : Byte) : (s.loadLow r b).mem = s.mem := by cases r <;> rfl
@[simp] theorem State.loadLow_ceAddressStop (r : Reg) (b : Byte) : (s.loadLow r b).ceAddressStop = s.ceAddressStop := by cases r <;> rfl
@[simp] theorem State.loadLow_cfg (r : Reg) (b : Byte) : (s.loadLow r b).cfg = s.cfg := by cases r <;> rfl
@[simp] theorem State.loadLow_stopped (r : Reg) (b : Byte) : (s.loadLow r b).stopped = s.stopped := by cases r <;> rfl
@[simp] theorem State.loadLow_compareHit (r : Reg) (b : Byte) : (s.loadLow r b).compareHit = s.compareHit := by cases r <;> rfl
@[simp] theorem State.loadLow_freeCount (r : Reg) (b : Byte) : (s.loadLow r b).freeCount = s.freeCount := by cases r <;> rfl
@[simp] theorem State.loadLow_host (r : Reg) (b : Byte) : (s.loadLow r b).host = s.host := by cases r <;> rfl

/-! ### `State.loadHigh` -/

@[simp] theorem State.loadHigh_lsrReserved (r : Reg) (b : Byte) : (s.loadHigh r b).lsrReserved = s.lsrReserved := by cases r <;> rfl
@[simp] theorem State.loadHigh_lsr8 (r : Reg) (b : Byte) : (s.loadHigh r b).lsr8 = s.lsr8 := by cases r <;> rfl
@[simp] theorem State.loadHigh_lsr9 (r : Reg) (b : Byte) : (s.loadHigh r b).lsr9 = s.lsr9 := by cases r <;> rfl
@[simp] theorem State.loadHigh_lsr11Op (r : Reg) (b : Byte) : (s.loadHigh r b).lsr11Op = s.lsr11Op := by cases r <;> rfl
@[simp] theorem State.loadHigh_lsr11Q (r : Reg) (b : Byte) : (s.loadHigh r b).lsr11Q = s.lsr11Q := by cases r <;> rfl
@[simp] theorem State.loadHigh_psrLsr (r : Reg) (b : Byte) : (s.loadHigh r b).psrLsr = s.psrLsr := by cases r <;> rfl
@[simp] theorem State.loadHigh_psr (r : Reg) (b : Byte) : (s.loadHigh r b).psr = s.psr := by cases r <;> rfl
@[simp] theorem State.loadHigh_pmr (r : Reg) (b : Byte) : (s.loadHigh r b).pmr = s.pmr := by cases r <;> rfl
@[simp] theorem State.loadHigh_opReg (r : Reg) (b : Byte) : (s.loadHigh r b).opReg = s.opReg := by cases r <;> rfl
@[simp] theorem State.loadHigh_qReg (r : Reg) (b : Byte) : (s.loadHigh r b).qReg = s.qReg := by cases r <;> rfl
@[simp] theorem State.loadHigh_qBackup (r : Reg) (b : Byte) : (s.loadHigh r b).qBackup = s.qBackup := by cases r <;> rfl
@[simp] theorem State.loadHigh_xHigh (r : Reg) (b : Byte) : (s.loadHigh r b).xHigh = s.xHigh := by cases r <;> rfl
@[simp] theorem State.loadHigh_xLow (r : Reg) (b : Byte) : (s.loadHigh r b).xLow = s.xLow := by cases r <;> rfl
@[simp] theorem State.loadHigh_y (r : Reg) (b : Byte) : (s.loadHigh r b).y = s.y := by cases r <;> rfl
@[simp] theorem State.loadHigh_msar (r : Reg) (b : Byte) : (s.loadHigh r b).msar = s.msar := by cases r <;> rfl
@[simp] theorem State.loadHigh_firstCycle (r : Reg) (b : Byte) : (s.loadHigh r b).firstCycle = s.firstCycle := by cases r <;> rfl
@[simp] theorem State.loadHigh_complement (r : Reg) (b : Byte) : (s.loadHigh r b).complement = s.complement := by cases r <;> rfl
@[simp] theorem State.loadHigh_recomplement (r : Reg) (b : Byte) : (s.loadHigh r b).recomplement = s.recomplement := by cases r <;> rfl
@[simp] theorem State.loadHigh_carry (r : Reg) (b : Byte) : (s.loadHigh r b).carry = s.carry := by cases r <;> rfl
@[simp] theorem State.loadHigh_stepMode (r : Reg) (b : Byte) : (s.loadHigh r b).stepMode = s.stepMode := by cases r <;> rfl
@[simp] theorem State.loadHigh_clockRun (r : Reg) (b : Byte) : (s.loadHigh r b).clockRun = s.clockRun := by cases r <;> rfl
@[simp] theorem State.loadHigh_clock (r : Reg) (b : Byte) : (s.loadHigh r b).clock = s.clock := by cases r <;> rfl
@[simp] theorem State.loadHigh_atr (r : Reg) (b : Byte) : (s.loadHigh r b).atr = s.atr := by cases r <;> rfl
@[simp] theorem State.loadHigh_cmr (r : Reg) (b : Byte) : (s.loadHigh r b).cmr = s.cmr := by cases r <;> rfl
@[simp] theorem State.loadHigh_bmr (r : Reg) (b : Byte) : (s.loadHigh r b).bmr = s.bmr := by cases r <;> rfl
@[simp] theorem State.loadHigh_ccr (r : Reg) (b : Byte) : (s.loadHigh r b).ccr = s.ccr := by cases r <;> rfl
@[simp] theorem State.loadHigh_acr (r : Reg) (b : Byte) : (s.loadHigh r b).acr = s.acr := by cases r <;> rfl
@[simp] theorem State.loadHigh_nonexecutable (r : Reg) (b : Byte) : (s.loadHigh r b).nonexecutable = s.nonexecutable := by cases r <;> rfl
@[simp] theorem State.loadHigh_controlGateCheck (r : Reg) (b : Byte) : (s.loadHigh r b).controlGateCheck = s.controlGateCheck := by cases r <;> rfl
@[simp] theorem State.loadHigh_lsrGateCheck (r : Reg) (b : Byte) : (s.loadHigh r b).lsrGateCheck = s.lsrGateCheck := by cases r <;> rfl
@[simp] theorem State.loadHigh_storageGateCheck (r : Reg) (b : Byte) : (s.loadHigh r b).storageGateCheck = s.storageGateCheck := by cases r <;> rfl
@[simp] theorem State.loadHigh_addressCheck (r : Reg) (b : Byte) : (s.loadHigh r b).addressCheck = s.addressCheck := by cases r <;> rfl
@[simp] theorem State.loadHigh_sb3 (r : Reg) (b : Byte) : (s.loadHigh r b).sb3 = s.sb3 := by cases r <;> rfl
@[simp] theorem State.loadHigh_processorError (r : Reg) (b : Byte) : (s.loadHigh r b).processorError = s.processorError := by cases r <;> rfl
@[simp] theorem State.loadHigh_level5 (r : Reg) (b : Byte) : (s.loadHigh r b).level5 = s.level5 := by cases r <;> rfl
@[simp] theorem State.loadHigh_mem (r : Reg) (b : Byte) : (s.loadHigh r b).mem = s.mem := by cases r <;> rfl
@[simp] theorem State.loadHigh_ceAddressStop (r : Reg) (b : Byte) : (s.loadHigh r b).ceAddressStop = s.ceAddressStop := by cases r <;> rfl
@[simp] theorem State.loadHigh_cfg (r : Reg) (b : Byte) : (s.loadHigh r b).cfg = s.cfg := by cases r <;> rfl
@[simp] theorem State.loadHigh_stopped (r : Reg) (b : Byte) : (s.loadHigh r b).stopped = s.stopped := by cases r <;> rfl
@[simp] theorem State.loadHigh_compareHit (r : Reg) (b : Byte) : (s.loadHigh r b).compareHit = s.compareHit := by cases r <;> rfl
@[simp] theorem State.loadHigh_freeCount (r : Reg) (b : Byte) : (s.loadHigh r b).freeCount = s.freeCount := by cases r <;> rfl
@[simp] theorem State.loadHigh_host (r : Reg) (b : Byte) : (s.loadHigh r b).host = s.host := by cases r <;> rfl

end Sys2Proof.Machine
end

