-- ==== Sys2Proof/Laws/Ops.lean ====
section
/-! SUPPORT. What each shared operation can do, said once. -/

namespace Sys2Proof.Machine

variable {α β : Type} {s t : State}

/-! ## `Res` -/

@[simp] theorem Res.bind_ok (a : α) (s : State) (f : α → State → Res β) : (Res.ok a s).bind f = f a s := rfl
@[simp] theorem Res.bind_stop (s : State) (f : α → State → Res β) : (Res.stop s).bind f = .stop s := rfl
@[simp] theorem Res.state_ok (a : α) (s : State) : (Res.ok a s).state = s := rfl
@[simp] theorem Res.state_stop (s : State) : (Res.stop (α := α) s).state = s := rfl
@[simp] theorem Res.outcome_eq (r : Res α) : r.outcome = .next r.state := rfl

/-- A property of states that an operation and what follows it both give holds of their sequence. -/
theorem Res.bind_state {P : State → Prop} {r : Res α} {f : α → State → Res β} (h : P r.state)
    (hf : ∀ a t, P t → P (f a t).state) : P (r.bind f).state := by
  cases r with
  | ok a t => exact hf a t h
  | stop t => exact h

/-! ## The byte loop -/

/-- A property of states that every cycle keeps, the loop keeps, completed or stopped. -/
theorem loop_state {P : State → Prop} {body : Nat → α → State → Res α}
    (h : ∀ i a t, P t → P (body i a t).state) (n i : Nat) (a : α) (hs : P s) :
    P (loop body n i a s).state := by
  induction n generalizing i a s with
  | zero => exact hs
  | succ n ih => exact Res.bind_state (h i a s hs) fun a t ht => ih (i + 1) a ht

/-- If cycle `k` completes from the invariant of `k` and gives that of `k + 1`, `n` cycles complete. -/
theorem loop_ok {inv : Nat → α → State → Prop} {body : Nat → α → State → Res α} (n i : Nat) (a : α)
    (h : ∀ k a t, i ≤ k → k < i + n → inv k a t → ∃ a' t', body k a t = .ok a' t' ∧ inv (k + 1) a' t')
    (hs : inv i a s) : ∃ a' t', loop body n i a s = .ok a' t' ∧ inv (i + n) a' t' := by
  induction n generalizing i a s with
  | zero => exact ⟨a, s, rfl, hs⟩
  | succ n ih =>
    obtain ⟨a1, t1, e1, h1⟩ := h i a s (Nat.le_refl _) (by omega) hs
    obtain ⟨a2, t2, e2, h2⟩ :=
      ih (i + 1) a1 (fun k a t hk hl => h k a t (by omega) (by omega)) h1
    refine ⟨a2, t2, ?_, ?_⟩
    · rw [loop, e1]; exact e2
    · have : i + 1 + n = i + (n + 1) := by omega
      exact this ▸ h2

/-- The first cycles complete and cycle `i + n` of the remaining ones stops: the loop stops there. -/
theorem loop_stop {inv : Nat → α → State → Prop} {body : Nat → α → State → Res α} (n m i : Nat) (a : α)
    {Q : State → Prop}
    (h : ∀ k a t, i ≤ k → k < i + n → inv k a t → ∃ a' t', body k a t = .ok a' t' ∧ inv (k + 1) a' t')
    (hstop : ∀ a t, inv (i + n) a t → ∃ t', body (i + n) a t = .stop t' ∧ Q t')
    (hs : inv i a s) : ∃ t', loop body (n + (m + 1)) i a s = .stop t' ∧ Q t' := by
  induction n generalizing i a s with
  | zero =>
    obtain ⟨t', e, hq⟩ := hstop a s hs
    refine ⟨t', ?_, hq⟩
    rw [Nat.zero_add, loop]
    simp only [Nat.add_zero] at e
    rw [e]; rfl
  | succ n ih =>
    obtain ⟨a1, t1, e1, h1⟩ := h i a s (Nat.le_refl _) (by omega) hs
    have he : i + 1 + n = i + (n + 1) := by omega
    obtain ⟨t', e, hq⟩ := ih (i + 1) a1 (fun k a t hk hl => h k a t (by omega) (by omega))
      (fun a t ht => he ▸ hstop a t (he ▸ ht)) h1
    refine ⟨t', ?_, hq⟩
    have : n + 1 + (m + 1) = (n + (m + 1)) + 1 := by omega
    rw [this, loop, e1]; exact e

/-! ## Translation depends on the PMR, the ATRs and the configuration only -/

/-- The parts of the state the checks of an access read are the same. -/
def SameChecks (s t : State) : Prop := t.pmr = s.pmr ∧ t.atr = s.atr ∧ t.cfg = s.cfg

theorem SameChecks.refl (s : State) : SameChecks s s := ⟨rfl, rfl, rfl⟩

theorem SameChecks.trans {u : State} (h : SameChecks s t) (h' : SameChecks t u) : SameChecks s u :=
  ⟨h'.1.trans h.1, h'.2.1.trans h.2.1, h'.2.2.trans h.2.2⟩

theorem SameChecks.translates (h : SameChecks s t) (k : Kind) : t.translates k = s.translates k := by
  cases k <;> simp [State.translates, h.1]

theorem SameChecks.realOf (h : SameChecks s t) (k : Kind) (la : Word) : t.realOf k la = s.realOf k la := by
  have ht : t.taskAtr la = s.taskAtr la := by unfold State.taskAtr; rw [h.2.1]
  have hi : ∀ ra, t.inStorage ra = s.inStorage ra := fun ra => by unfold State.inStorage; rw [h.2.2]
  simp only [State.realOf, State.checkSize, h.translates, ht, hi]

theorem SameChecks.readCheck (h : SameChecks s t) (k : Kind) (la : Word) :
    t.readCheck k la = s.readCheck k la := by
  simp [State.readCheck, h.realOf, h.2.2, State.nonprivileged, h.1]

theorem SameChecks.writeCheck (h : SameChecks s t) (k : Kind) (la : Word) :
    t.writeCheck k la = s.writeCheck k la := by
  simp [State.writeCheck, h.realOf, State.nonprivileged, h.1]

theorem SameChecks.canRead (h : SameChecks s t) (k : Kind) (la : Word) : t.canRead k la = s.canRead k la := by
  simp [State.canRead, h.readCheck]

theorem SameChecks.canWrite (h : SameChecks s t) (k : Kind) (la : Word) :
    t.canWrite k la = s.canWrite k la := by
  simp [State.canWrite, h.writeCheck]

theorem SameChecks.target (h : SameChecks s t) (k : Kind) (la : Word) : t.target k la = s.target k la := by
  simp [State.target, h.realOf]

/-! ## One access -/

/-- A check that answers an address answers the target, and the address exists (R86). -/
theorem realOf_ok {k : Kind} {la : Word} {ra : RealAddr} (h : s.realOf k la = .ok ra) :
    ra = s.target k la ∧ s.inStorage ra = true := by
  refine ⟨by simp [State.target, h], ?_⟩
  simp only [State.realOf, State.checkSize] at h
  split_ifs at h <;> simp_all

theorem readCheck_ok {k : Kind} {la : Word} {ra : RealAddr} (h : s.readCheck k la = .ok ra) :
    s.realOf k la = .ok ra := by
  unfold State.readCheck at h
  split at h
  · split_ifs at h; simp_all
  · simp at h

/-- A write that is allowed goes to the translated address, and in nonprivileged mode not into the first 8K
(R80, R85). -/
theorem writeCheck_ok {k : Kind} {la : Word} {ra : RealAddr} (h : s.writeCheck k la = .ok ra) :
    s.realOf k la = .ok ra ∧ ¬(s.nonprivileged = true ∧ inFirst8K ra = true) := by
  unfold State.writeCheck at h
  split at h
  · rename_i ra' e
    split_ifs at h with hc
    injection h with h
    subst h
    exact ⟨e, by simpa using hc⟩
  · simp at h

theorem canRead_iff {k : Kind} {la : Word} :
    s.canRead k la = true ↔ s.readCheck k la = .ok (s.target k la) := by
  unfold State.canRead
  cases h : s.readCheck k la with
  | ok ra => simp [(realOf_ok (readCheck_ok h)).1]
  | error e => simp

theorem canWrite_iff {k : Kind} {la : Word} :
    s.canWrite k la = true ↔ s.writeCheck k la = .ok (s.target k la) := by
  unfold State.canWrite
  cases h : s.writeCheck k la with
  | ok ra => simp [(realOf_ok (writeCheck_ok h).1).1]
  | error e => simp

/-- What can be written can be read. -/
theorem canRead_of_canWrite {k : Kind} {la : Word} (h : s.canWrite k la = true) : s.canRead k la = true := by
  obtain ⟨h1, h2⟩ := writeCheck_ok (canWrite_iff.mp h)
  rw [canRead_iff]
  unfold State.readCheck
  rw [h1]
  have : (s.cfg.lowReadFaults && s.nonprivileged && inFirst8K (s.target k la)) = false := by
    by_contra hc
    simp only [Bool.not_eq_false, Bool.and_eq_true] at hc
    exact h2 ⟨hc.1.2, hc.2⟩
  simp [this]

/-- A read either answers the byte found or stops on the event of its check (R80). -/
theorem readAt_cases (s : State) (k : Kind) (la : Word) :
    (s.canRead k la = true ∧
        s.readAt k la = .ok (s.peek k la) ((s.setMsar la).compare la (s.target k la))) ∨
      ∃ e, s.readCheck k la = .error e ∧ s.readAt k la = .stop ((s.setMsar la).stop e) := by
  cases h : s.readCheck k la with
  | ok ra =>
    have := (realOf_ok (readCheck_ok h)).1
    subst this
    exact .inl ⟨canRead_iff.mpr h, by simp [State.readAt, h, State.peek]⟩
  | error e => exact .inr ⟨e, rfl, by simp [State.readAt, h]⟩

/-- A write either stores the byte at its target or stops on the event of its check (R80, R85). -/
theorem writeAt_cases (s : State) (k : Kind) (la : Word) (b : Byte) :
    (s.canWrite k la = true ∧
        s.writeAt k la b =
          .ok () (((s.setMsar la).compare la (s.target k la)).putByte (s.target k la) b)) ∨
      ∃ e, s.writeCheck k la = .error e ∧ s.writeAt k la b = .stop ((s.setMsar la).stop e) := by
  cases h : s.writeCheck k la with
  | ok ra =>
    have := (realOf_ok (writeCheck_ok h).1).1
    subst this
    exact .inl ⟨canWrite_iff.mpr h, by simp [State.writeAt, h]⟩
  | error e => exact .inr ⟨e, rfl, by simp [State.writeAt, h]⟩

theorem readAt_of_canRead {k : Kind} {la : Word} (h : s.canRead k la = true) :
    s.readAt k la = .ok (s.peek k la) ((s.setMsar la).compare la (s.target k la)) := by
  rw [State.readAt, canRead_iff.mp h]; rfl

theorem writeAt_of_canWrite {k : Kind} {la : Word} {b : Byte} (h : s.canWrite k la = true) :
    s.writeAt k la b = .ok () (((s.setMsar la).compare la (s.target k la)).putByte (s.target k la) b) := by
  rw [State.writeAt, canWrite_iff.mp h]

/-! ## Storage by real address -/

theorem cardSwap_inj {m n : Nat} (h : cardSwap m = cardSwap n) : m = n := by
  unfold cardSwap at h; split_ifs at h <;> omega

/-- Different real addresses are different cells (R43, R89). -/
theorem cell_inj {a b : RealAddr} (h : s.cell a = s.cell b) : a = b := by
  unfold State.cell at h
  split_ifs at h
  · exact BitVec.eq_of_toNat_eq (cardSwap_inj h)
  · exact BitVec.eq_of_toNat_eq h

/-- A byte of installed storage lies in an installed cell (R43: the switched blocks are the lowest 32K). -/
theorem cell_lt {a : RealAddr} (h : s.inStorage a = true) : s.cell a < s.cfg.size.bytes := by
  have h1 : a.toNat < s.cfg.size.bytes := by simpa [State.inStorage] using h
  have h2 : 32768 ≤ s.cfg.size.bytes := by cases s.cfg.size <;> decide
  unfold State.cell cardSwap
  split_ifs <;> omega

/-- What a store leaves at each real address. -/
theorem byteAt_putByte (h : Memory.wf s.mem = true) (a a' : RealAddr) (b : Byte) :
    (s.putByte a b).byteAt a' = if a' = a then b else s.byteAt a' := by
  have hc : (s.putByte a b).cell a' = s.cell a' := rfl
  unfold State.byteAt
  rw [hc, State.putByte_mem, Memory.read_write h]
  by_cases e : a' = a
  · simp [e]
  · have : s.cell a' ≠ s.cell a := fun h => e (cell_inj h)
    simp [e, this]

/-- Reading depends on storage and the card switch only. -/
theorem byteAt_congr (hm : t.mem = s.mem) (hb : t.bmr = s.bmr) (a : RealAddr) : t.byteAt a = s.byteAt a := by
  simp [State.byteAt, State.cell, hm, hb]

/-! ## What no operation of an execution phase goes beyond -/

/-- `t` may follow `s` inside an instruction: the control side, the configuration and the PMR are the same,
storage changes only where an operand 1 write is allowed, and stays canonical and inside the installed size. -/
structure Within (s t : State) : Prop where
  control : SameControl s t
  pmr : t.pmr = s.pmr
  wf : Memory.wf s.mem = true → Memory.wf t.mem = true
  below : Memory.below s.cfg.size.bytes s.mem = true → Memory.below s.cfg.size.bytes t.mem = true
  storage : Memory.wf s.mem = true → ∀ ra, t.byteAt ra ≠ s.byteAt ra →
    ∃ la, s.writeCheck .op1 la = .ok ra

theorem SameControl.refl (s : State) : SameControl s s := by simp [SameControl]

theorem SameControl.trans {u : State} (h : SameControl s t) (h' : SameControl t u) : SameControl s u := by
  simp only [SameControl] at *
  simp_all

theorem Within.checks (h : Within s t) : SameChecks s t := ⟨h.pmr, h.control.1, h.control.2.2.2.2.2.2.2.2.2.2.2.2.2.1⟩

theorem Within.refl (s : State) : Within s s :=
  ⟨SameControl.refl s, rfl, id, id, fun _ _ h => absurd rfl h⟩

theorem Within.trans {u : State} (h : Within s t) (h' : Within t u) : Within s u := by
  have hc : t.cfg = s.cfg := h.checks.2.2
  refine ⟨h.control.trans h'.control, h'.pmr.trans h.pmr, fun hw => h'.wf (h.wf hw), fun hb => ?_,
    fun hw ra hne => ?_⟩
  · have := h'.below; rw [hc] at this; exact this (h.below hb)
  · by_cases e : u.byteAt ra = t.byteAt ra
    · exact h.storage hw ra (e ▸ hne)
    · obtain ⟨la, hla⟩ := h'.storage (h.wf hw) ra e
      exact ⟨la, h.checks.writeCheck .op1 la ▸ hla⟩

/-- An update that leaves the control side, the PMR and storage alone is within any instruction. -/
theorem Within.of_same (hc : SameControl s t) (hp : t.pmr = s.pmr) (hm : t.mem = s.mem) : Within s t := by
  refine ⟨hc, hp, fun h => hm ▸ h, fun h => hm ▸ h, fun _ ra hne => absurd ?_ hne⟩
  exact byteAt_congr hm hc.2.2.1 ra

/-- Stopping is within any instruction. -/
theorem within_stop (s : State) (e : StopEvent) : Within s (s.stop e) :=
  .of_same (by simp [SameControl]) rfl rfl

/-- A read goes on, or stops, within any instruction. -/
theorem within_readAt (s : State) (k : Kind) (la : Word) : Within s (s.readAt k la).state := by
  rcases readAt_cases s k la with ⟨_, e⟩ | ⟨e, _, h⟩
  · rw [e]; exact .of_same (by simp [SameControl]) rfl rfl
  · rw [h]; exact .of_same (by simp [SameControl]) rfl rfl

/-- An operand 1 write goes on, or stops, within any instruction. -/
theorem within_writeAt (s : State) (la : Word) (b : Byte) : Within s (s.writeAt .op1 la b).state := by
  rcases writeAt_cases s .op1 la b with ⟨hc, e⟩ | ⟨e, _, h⟩
  · have hok := canWrite_iff.mp hc
    have hin := (realOf_ok (writeCheck_ok hok).1).2
    have hcell : ((s.setMsar la).compare la (s.target .op1 la)).cell (s.target .op1 la) =
        s.cell (s.target .op1 la) := rfl
    rw [e]
    refine ⟨by simp [SameControl], rfl, fun hw => ?_, fun hb => ?_, fun hw ra hne => ⟨la, ?_⟩⟩
    · exact Memory.wf_write hw
    · exact Memory.below_write (hcell ▸ cell_lt hin) hb
    · rw [Res.state_ok, byteAt_putByte (by exact hw)] at hne
      split_ifs at hne with h
      · exact h ▸ hok
      · exact absurd (byteAt_congr rfl rfl ra) hne
  · rw [h]; exact .of_same (by simp [SameControl]) rfl rfl

/-- A sequence within any instruction. -/
theorem within_bind {r : Res α} {f : α → State → Res β} (h : Within s r.state)
    (hf : ∀ a t, Within s t → Within s (f a t).state) : Within s (r.bind f).state :=
  Res.bind_state (P := fun t => Within s t) h hf

/-- The byte loop is within any instruction when each of its cycles is. -/
theorem within_loop {body : Nat → α → State → Res α} (h : ∀ i a t, Within t (body i a t).state)
    (n i : Nat) (a : α) : Within s (loop body n i a s).state :=
  loop_state (P := fun t => Within s t) (fun i a t ht => ht.trans (h i a t)) n i a (Within.refl s)

end Sys2Proof.Machine
end

