-- ==== Sys2Proof/Laws/Access.lean ====
section
/-! SUPPORT. The shared operations inside an instruction that will complete: what one access answers and leaves,
by logical address of the state the instruction started in. -/

namespace Sys2Proof.Machine

variable {s v t u : State} {q b : Byte} {k : Kind} {la : Word} {e : StopEvent}

/-! ## One access, checked in the state the instruction started in -/

theorem readAt_ok (h : SameChecks s u) (hc : s.canRead k la = true) :
    u.readAt k la = .ok (u.byteAt (s.target k la)) ((u.setMsar la).compare la (s.target k la)) := by
  rw [readAt_of_canRead (by rw [h.canRead]; exact hc), State.peek, h.target]

theorem readAt_error (h : SameChecks s u) (hc : s.readCheck k la = .error e) :
    u.readAt k la = .stop ((u.setMsar la).stop e) := by
  simp [State.readAt, h.readCheck, hc]

theorem writeAt_ok (h : SameChecks s u) (hc : s.canWrite k la = true) :
    u.writeAt k la b =
      .ok () (((u.setMsar la).compare la (s.target k la)).putByte (s.target k la) b) := by
  rw [writeAt_of_canWrite (by rw [h.canWrite]; exact hc), h.target]

theorem writeAt_error (h : SameChecks s u) (hc : s.writeCheck k la = .error e) :
    u.writeAt k la b = .stop ((u.setMsar la).stop e) := by
  simp [State.writeAt, h.writeCheck, hc]

/-- An operand 1 address that may not be written may be read, or the read raises the same event (R80, R85). -/
theorem canRead_or_readCheck (h : s.writeCheck .op1 la = .error e) :
    s.canRead .op1 la = true ∨ s.readCheck .op1 la = .error e := by
  cases hr : s.readCheck .op1 la with
  | ok ra => left; simp [State.canRead, hr]
  | error e' =>
    right
    simp only [State.readCheck, State.writeCheck] at hr h
    cases hh : s.realOf .op1 la with
    | ok ra =>
      rw [hh] at hr h
      simp only at hr h
      split_ifs at hr h
      simp_all
    | error e'' => rw [hh] at hr h; simp_all

/-- What an access finds, in a state with the same checks. -/
theorem peek_eq (h : SameChecks s t) (k : Kind) (la : Word) : t.peek k la = t.byteAt (s.target k la) := by
  rw [State.peek, h.target]

/-! ## Stepping down and up a field -/

theorem sub_ofNat_succ (a : Word) (n : Nat) : a - BitVec.ofNat 16 n - 1 = a - BitVec.ofNat 16 (n + 1) := by
  apply BitVec.eq_of_toNat_eq
  simp [BitVec.toNat_sub, BitVec.toNat_ofNat]
  omega

theorem sub_one_ofNat (a : Word) (n : Nat) : a - 1 - BitVec.ofNat 16 n = a - BitVec.ofNat 16 (n + 1) := by
  apply BitVec.eq_of_toNat_eq
  simp [BitVec.toNat_sub, BitVec.toNat_ofNat]
  omega

theorem add_ofNat_succ (a : Word) (n : Nat) : a + BitVec.ofNat 16 n + 1 = a + BitVec.ofNat 16 (n + 1) := by
  rw [BitVec.add_assoc]
  congr 1
  apply BitVec.eq_of_toNat_eq
  simp

/-! ## An instruction underway -/

/-- `t` is reached inside an instruction with Q-byte `q` that started in `s` and has not stopped; the registers
a program can see are those of `v`. -/
structure Underway (s v t : State) (q : Byte) : Prop where
  control : SameControl s t
  nostop : NoStop s t
  seq : SameSequencing s t q
  visible : SameVisible v t
  pmr : v.pmr = s.pmr
  wf : Memory.wf t.mem = true

theorem Underway.checks (h : Underway s v t q) : SameChecks s t :=
  ⟨h.visible.2.2.2.2.2.1.trans h.pmr, h.control.1, h.control.2.2.2.2.2.2.2.2.2.2.2.2.2.1⟩

theorem Underway.completes (h : Underway s v t q) : Completes s t q := ⟨h.control, h.nostop, h.seq⟩

/-- The operand pointers, the MSAR, the Q-register, the latches and the compare flag may change. -/
theorem Underway.update (h : Underway s v t q) (l8 l9 m : Word) (qr : Byte) (f c r k hit : Bool) :
    Underway s v
      { t with
        lsr8 := l8, lsr9 := l9, msar := m, qReg := qr, firstCycle := f, complement := c
        recomplement := r, carry := k, compareHit := hit } q :=
  ⟨h.control, h.nostop, h.seq, h.visible, h.pmr, h.wf⟩

theorem Underway.putByte (h : Underway s v t q) (ra : RealAddr) (b : Byte) :
    Underway s v (t.putByte ra b) q :=
  ⟨h.control, h.nostop, h.seq, h.visible, h.pmr, Memory.wf_write h.wf⟩

theorem Underway.setCarry (h : Underway s v t q) (c : Bool) : Underway s v (t.setCarry c) q :=
  h.update _ _ _ _ _ _ _ _ _

theorem Underway.endCycle (h : Underway s v t q) : Underway s v t.endCycle q := h.update _ _ _ _ _ _ _ _ _

theorem Underway.setPsr (h : Underway s v t q) (p : Byte) :
    Underway s { v with psr := p } (t.setPsr p) q :=
  ⟨h.control, h.nostop, h.seq,
    ⟨h.visible.1, h.visible.2.1, h.visible.2.2.1, h.visible.2.2.2.1, rfl, h.visible.2.2.2.2.2⟩, h.pmr, h.wf⟩

theorem Underway.setArr (h : Underway s v t q) (a : Word) : Underway s { v with arr := a } (t.setArr a) q :=
  ⟨h.control, h.nostop, h.seq,
    ⟨h.visible.1, h.visible.2.1, h.visible.2.2.1, rfl, h.visible.2.2.2.2⟩, h.pmr, h.wf⟩

theorem Underway.countQ (h : Underway s v t q) : Underway s v t.countQ q := by
  unfold State.countQ
  split
  · exact h
  · exact h.update _ _ _ _ _ _ _ _ _

theorem Underway.countDecimalQ (h : Underway s v t q) : Underway s v t.countDecimalQ q := by
  unfold State.countDecimalQ
  split
  · exact h
  · exact h.update _ _ _ _ _ _ _ _ _

/-- A two-address instruction starts underway, with the operand addresses in LSR 8 and 9 (R24). -/
theorem underway_enterTwo (s : State) (q : Byte) (o1 o2 : Operand) (hw : Memory.wf s.mem = true) :
    Underway s s (s.enterTwo q o1 o2) q :=
  ⟨by simp [SameControl, State.enterTwo, State.enter], by simp [NoStop, State.enterTwo, State.enter],
    by simp [SameSequencing, State.enterTwo, State.enter], by simp [SameVisible, State.enterTwo, State.enter],
    rfl, hw⟩

/-- A decimal instruction starts underway, with A1 in the ARR too (R131, R153). -/
theorem underway_enterDecimal (s : State) (q : Byte) (o1 o2 : Operand) (hw : Memory.wf s.mem = true) :
    Underway s { s with arr := s.address o1 } (s.enterDecimal q o1 o2) q :=
  ⟨by simp [SameControl, State.enterDecimal, State.enterTwo, State.enter],
    by simp [NoStop, State.enterDecimal, State.enterTwo, State.enter],
    by simp [SameSequencing, State.enterDecimal, State.enterTwo, State.enter],
    by simp [SameVisible, State.enterDecimal, State.enterTwo, State.enter], rfl, hw⟩

/-- What counting the Q-register leaves. -/
theorem countQ_leaves (t : State) : t.countQ.lsr8 = t.lsr8 ∧ t.countQ.lsr9 = t.lsr9 ∧
    t.countQ.carry = t.carry ∧ (∀ ra, t.countQ.byteAt ra = t.byteAt ra) ∧ t.countQ.arr = t.arr ∧
    t.countQ.psr = t.psr ∧ t.countQ.cfg = t.cfg := by
  unfold State.countQ
  split <;> exact ⟨rfl, rfl, rfl, fun _ => rfl, rfl, rfl, rfl⟩

/-- What counting the nibbles of the Q-register leaves. -/
theorem countDecimalQ_leaves (t : State) : t.countDecimalQ.lsr8 = t.lsr8 ∧ t.countDecimalQ.lsr9 = t.lsr9 ∧
    t.countDecimalQ.carry = t.carry ∧ (∀ ra, t.countDecimalQ.byteAt ra = t.byteAt ra) ∧
    t.countDecimalQ.arr = t.arr ∧ t.countDecimalQ.psr = t.psr := by
  unfold State.countDecimalQ
  split <;> exact ⟨rfl, rfl, rfl, fun _ => rfl, rfl, rfl⟩

theorem takeOp2_ok (h : Underway s v t q) (hr : s.canRead .op2 t.lsr9 = true) :
    ∃ u, t.takeOp2 = .ok (t.byteAt (s.target .op2 t.lsr9)) u ∧ Underway s v u q ∧ u.lsr8 = t.lsr8 ∧
      u.lsr9 = t.lsr9 - 1 ∧ u.carry = t.carry ∧ ∀ ra, u.byteAt ra = t.byteAt ra := by
  unfold State.takeOp2
  rw [readAt_ok h.checks hr]
  exact ⟨_, rfl, h.update _ _ _ _ _ _ _ _ _, rfl, rfl, rfl, fun _ => rfl⟩

theorem takeOp2_error (h : Underway s v t q) (hr : s.readCheck .op2 t.lsr9 = .error e) :
    t.takeOp2 = .stop ((t.setMsar t.lsr9).stop e) := by
  unfold State.takeOp2
  rw [readAt_error h.checks hr]
  rfl

theorem takeOp1_ok (h : Underway s v t q) (hr : s.canRead .op1 t.lsr8 = true) :
    ∃ u, t.takeOp1 = .ok (t.byteAt (s.target .op1 t.lsr8)) u ∧ Underway s v u q ∧
      u.lsr8 = t.lsr8 - 1 ∧ u.lsr9 = t.lsr9 ∧ u.carry = t.carry ∧ ∀ ra, u.byteAt ra = t.byteAt ra := by
  unfold State.takeOp1 State.readOp1
  rw [readAt_ok h.checks hr]
  exact ⟨_, rfl, h.update _ _ _ _ _ _ _ _ _, rfl, rfl, rfl, fun _ => rfl⟩

theorem readOp1_ok (h : Underway s v t q) (hr : s.canRead .op1 t.lsr8 = true) :
    ∃ u, t.readOp1 = .ok (t.byteAt (s.target .op1 t.lsr8)) u ∧ Underway s v u q ∧ u.lsr8 = t.lsr8 ∧
      u.lsr9 = t.lsr9 ∧ u.carry = t.carry ∧ ∀ ra, u.byteAt ra = t.byteAt ra := by
  unfold State.readOp1
  rw [readAt_ok h.checks hr]
  exact ⟨_, rfl, h.update _ _ _ _ _ _ _ _ _, rfl, rfl, rfl, fun _ => rfl⟩

theorem writeOp1_ok (h : Underway s v t q) (b : Byte) (hr : s.canWrite .op1 t.lsr8 = true) :
    ∃ u, t.writeOp1 b = .ok () u ∧ Underway s v u q ∧ u.lsr8 = t.lsr8 ∧ u.lsr9 = t.lsr9 ∧
      u.carry = t.carry ∧ ∀ ra, u.byteAt ra = if ra = s.target .op1 t.lsr8 then b else t.byteAt ra := by
  unfold State.writeOp1
  rw [writeAt_ok h.checks hr]
  exact ⟨_, rfl,
    (h.update t.lsr8 t.lsr9 _ t.qReg t.firstCycle t.complement t.recomplement t.carry _).putByte _ _,
    rfl, rfl, rfl, fun ra => byteAt_putByte (by exact h.wf) _ _ _⟩

theorem storeOp1_ok (h : Underway s v t q) (b : Byte) (hr : s.canWrite .op1 t.lsr8 = true) :
    ∃ u, t.storeOp1 b = .ok () u ∧ Underway s v u q ∧ u.lsr8 = t.lsr8 - 1 ∧ u.lsr9 = t.lsr9 ∧
      u.carry = t.carry ∧ ∀ ra, u.byteAt ra = if ra = s.target .op1 t.lsr8 then b else t.byteAt ra := by
  obtain ⟨u, e, k, h8, h9, hc, hb⟩ := writeOp1_ok h b hr
  unfold State.storeOp1
  rw [e]
  exact ⟨_, rfl, k.update _ _ _ _ _ _ _ _ _, by rw [← h8]; rfl, h9, hc, hb⟩

theorem storeOp1_error (h : Underway s v t q) (b : Byte) (hr : s.writeCheck .op1 t.lsr8 = .error e) :
    t.storeOp1 b = .stop ((t.setMsar t.lsr8).stop e) := by
  unfold State.storeOp1 State.writeOp1
  rw [writeAt_error h.checks hr]
  rfl

/-- The read through the ARR of a recomplement cycle (R157). -/
theorem takeArr_ok (h : Underway s v t q) (hr : s.canRead .op1 t.arr = true) :
    ∃ u, t.takeArr = .ok (t.byteAt (s.target .op1 t.arr), t.arr) u ∧
      Underway s { v with arr := t.arr - 1 } u q ∧ u.carry = t.carry ∧ u.psr = t.psr ∧
      u.arr = t.arr - 1 ∧ ∀ ra, u.byteAt ra = t.byteAt ra := by
  unfold State.takeArr
  rw [readAt_ok h.checks hr]
  exact ⟨_, rfl,
    (h.update t.lsr8 t.lsr9 _ t.qReg t.firstCycle t.complement t.recomplement t.carry _).setArr _,
    rfl, rfl, rfl, fun _ => rfl⟩

/-- The write of a recomplement cycle (R157). -/
theorem writeAt_op1_ok (h : Underway s v t q) (la : Word) (b : Byte) (hr : s.canWrite .op1 la = true) :
    ∃ u, t.writeAt .op1 la b = .ok () u ∧ Underway s v u q ∧ u.carry = t.carry ∧ u.psr = t.psr ∧
      u.arr = t.arr ∧ ∀ ra, u.byteAt ra = if ra = s.target .op1 la then b else t.byteAt ra := by
  rw [writeAt_ok h.checks hr]
  exact ⟨_, rfl,
    (h.update t.lsr8 t.lsr9 _ t.qReg t.firstCycle t.complement t.recomplement t.carry _).putByte _ _,
    rfl, rfl, rfl, fun ra => byteAt_putByte (by exact h.wf) _ _ _⟩

/-- A loop of `n + m` cycles is the loop of the first `n`, then that of the others. -/
theorem loop_add {α : Type} {body : Nat → α → State → Res α} (n m i : Nat) (a : α) (s : State) :
    loop body (n + m) i a s = (loop body n i a s).bind fun a s => loop body m (i + n) a s := by
  induction n generalizing i a s with
  | zero => simp [loop]
  | succ n ih =>
    rw [show n + 1 + m = (n + m) + 1 by omega, loop, loop]
    cases body i a s with
    | stop t => rfl
    | ok a t => simp only [Res.bind_ok]; rw [ih, show i + 1 + n = i + (n + 1) by omega]

end Sys2Proof.Machine
end

