-- ==== Sys2Proof/Laws/Frame.lean ====
section
/-! SUPPORT. Frames. A relation between states that one-byte accesses and changes of the sequencing registers
keep is kept by every operation of an execution phase, completed or stopped. -/

namespace Sys2Proof.Machine

/-- `R` holds over the one-byte accesses of an instruction and over changes of its sequencing registers. -/
structure Kept (R : State → State → Prop) : Prop where
  refl : ∀ s, R s s
  trans : ∀ {s t u}, R s t → R t u → R s u
  readAt : ∀ s k la, R s (s.readAt k la).state
  writeAt : ∀ s la b, R s (s.writeAt .op1 la b).state
  sequencing : ∀ (s : State) (l8 l9 m : Word) (qr qb lq : Byte) (f c r k hit : Bool),
    R s { s with
      lsr8 := l8, lsr9 := l9, msar := m, qReg := qr, qBackup := qb, lsr11Q := lq, firstCycle := f
      complement := c, recomplement := r, carry := k, compareHit := hit }

variable {R : State → State → Prop} {α β : Type}

section Sequencing

variable (K : Kept R)
include K

/-- A sequence keeps what its parts keep. -/
theorem Kept.bind {s : State} {r : Res α} {f : α → State → Res β} (h : R s r.state)
    (hf : ∀ a t, R t (f a t).state) : R s (r.bind f).state :=
  Res.bind_state (P := R s) h fun a t ht => K.trans ht (hf a t)

/-- The byte loop keeps what its cycles keep. -/
theorem Kept.loop {body : Nat → α → State → Res α} (h : ∀ i a t, R t (body i a t).state) (n i : Nat)
    (a : α) (s : State) : R s (loop body n i a s).state :=
  loop_state (P := R s) (fun i a t ht => K.trans ht (h i a t)) n i a (K.refl s)

theorem Kept.enter (s : State) (q : Byte) : R s (s.enter q) :=
  K.sequencing s s.lsr8 s.lsr9 s.msar q q q true false false s.carry s.compareHit

theorem Kept.enterOne (s : State) (q : Byte) (o : Operand) : R s (s.enterOne q o) :=
  K.sequencing s (s.address o) s.lsr9 s.msar q q q true false false s.carry s.compareHit

theorem Kept.enterTwo (s : State) (q : Byte) (o1 o2 : Operand) : R s (s.enterTwo q o1 o2) :=
  K.sequencing s (s.address o1) (s.address o2) s.msar q q q true false false s.carry s.compareHit

theorem Kept.endCycle (s : State) : R s s.endCycle :=
  K.sequencing s s.lsr8 s.lsr9 s.msar s.qReg s.qBackup s.lsr11Q false s.complement s.recomplement s.carry
    s.compareHit

theorem Kept.setCarry (s : State) (c : Bool) : R s (s.setCarry c) :=
  K.sequencing s s.lsr8 s.lsr9 s.msar s.qReg s.qBackup s.lsr11Q s.firstCycle s.complement s.recomplement c
    s.compareHit

theorem Kept.raiseComplement (s : State) (c : Bool) : R s (s.raiseComplement c) :=
  K.sequencing s s.lsr8 s.lsr9 s.msar s.qReg s.qBackup s.lsr11Q s.firstCycle (s.complement || c)
    s.recomplement s.carry s.compareHit

theorem Kept.setQ (s : State) (q : Byte) : R s { s with qReg := q } :=
  K.sequencing s s.lsr8 s.lsr9 s.msar q s.qBackup s.lsr11Q s.firstCycle s.complement s.recomplement s.carry
    s.compareHit

theorem Kept.countQ (s : State) : R s s.countQ := by
  unfold State.countQ
  split
  · exact K.refl s
  · exact K.setQ s _

theorem Kept.countDecimalQ (s : State) : R s s.countDecimalQ := by
  unfold State.countDecimalQ
  split
  · exact K.refl s
  · exact K.setQ s _

theorem Kept.startRecomplement (s : State) : R s s.startRecomplement :=
  K.sequencing s s.lsr8 s.lsr9 s.msar s.qBackup s.qBackup s.lsr11Q s.firstCycle true true s.carry
    s.compareHit

theorem Kept.pointers (s : State) (l8 l9 : Word) : R s { s with lsr8 := l8, lsr9 := l9 } :=
  K.sequencing s l8 l9 s.msar s.qReg s.qBackup s.lsr11Q s.firstCycle s.complement s.recomplement s.carry
    s.compareHit

theorem Kept.takeOp1 (s : State) : R s s.takeOp1.state :=
  K.bind (K.readAt _ _ _) fun _ t => K.pointers t (t.lsr8 - 1) t.lsr9

theorem Kept.takeOp2 (s : State) : R s s.takeOp2.state :=
  K.bind (K.readAt _ _ _) fun _ t => K.pointers t t.lsr8 (t.lsr9 - 1)

theorem Kept.storeOp1 (s : State) (b : Byte) : R s (s.storeOp1 b).state :=
  K.bind (K.writeAt _ _ _) fun _ t => K.pointers t (t.lsr8 - 1) t.lsr9

theorem Kept.takeDigit2 (l2 i : Nat) (s : State) : R s (takeDigit2 l2 i s).state := by
  unfold Machine.takeDigit2
  split
  · exact K.takeOp2 s
  · exact K.refl s

theorem Kept.mvcCycle (i : Nat) (a : Unit) (s : State) : R s (mvcCycle i a s).state :=
  K.bind (K.trans (K.countQ s) (K.takeOp2 _)) fun _ _ => K.bind (K.storeOp1 _ _) fun _ _ => K.endCycle _

theorem Kept.alcCycle (i : Nat) (a : BinAcc) (s : State) : R s (alcCycle i a s).state :=
  K.bind (K.trans (K.countQ s) (K.takeOp2 _)) fun _ _ => K.bind (K.readAt _ _ _) fun _ _ =>
    K.bind (K.trans (K.setCarry _ _) (K.storeOp1 _ _)) fun _ _ => K.endCycle _

theorem Kept.slcCycle (i : Nat) (a : BinAcc) (s : State) : R s (slcCycle i a s).state :=
  K.bind (K.trans (K.countQ s) (K.takeOp2 _)) fun _ _ => K.bind (K.readAt _ _ _) fun _ _ =>
    K.bind (K.trans (K.setCarry _ _) (K.storeOp1 _ _)) fun _ _ => K.endCycle _

theorem Kept.zazCycle (l2 i : Nat) (a : ZazAcc) (s : State) : R s (zazCycle l2 i a s).state := by
  unfold Machine.zazCycle
  simp only []
  split
  · exact K.bind (K.trans (K.countDecimalQ s) (K.takeOp2 _)) fun _ _ =>
      K.bind (K.storeOp1 _ _) fun _ _ => K.endCycle _
  · exact K.bind (K.trans (K.countDecimalQ s) (K.storeOp1 _ _)) fun _ _ => K.endCycle _

theorem Kept.addCycle (sub : Bool) (l2 i : Nat) (a : AddAcc) (s : State) :
    R s (addCycle sub l2 i a s).state :=
  K.bind (K.trans (K.countDecimalQ s) (K.takeDigit2 _ _ _)) fun _ _ => K.bind (K.readAt _ _ _) fun _ _ =>
    K.bind (K.trans (K.trans (K.raiseComplement _ _) (K.setCarry _ _)) (K.storeOp1 _ _)) fun _ _ =>
      K.endCycle _

theorem Kept.takeDigit (i : Nat) (a : EditAcc) (s : State) : R s (takeDigit i a s).state := by
  unfold Machine.takeDigit
  split
  · exact K.bind (K.takeOp2 _) fun _ _ => K.refl _
  · exact K.refl s

theorem Kept.edCycle (i : Nat) (a : EditAcc) (s : State) : R s (edCycle i a s).state := by
  refine K.bind (K.trans (K.countQ s) (K.takeDigit _ _ _)) fun _ _ => K.bind (K.readAt _ _ _) fun x u => ?_
  split
  · exact K.bind (K.storeOp1 _ _) fun _ _ => K.endCycle _
  · exact K.trans (K.pointers u (u.lsr8 - 1) u.lsr9) (K.endCycle _)

theorem Kept.modifyOp1 (f : Byte → Byte) (s : State) : R s (modifyOp1 f s).state :=
  K.bind (K.readAt _ _ _) fun _ _ => K.bind (K.storeOp1 _ _) fun _ _ => K.endCycle _

theorem Kept.storeReg (r : Reg) (s : State) : R s (storeReg r s).state :=
  K.bind (K.storeOp1 _ _) fun _ _ => K.bind (K.trans (K.endCycle _) (K.storeOp1 _ _)) fun _ _ => K.refl _

theorem Kept.mvxRun (q : Byte) (s : State) : R s (mvxRun q s).state :=
  K.bind (K.readAt _ _ _) fun _ _ => K.bind (K.readAt _ _ _) fun _ _ =>
    K.bind (K.writeAt _ _ _) fun _ _ => K.endCycle _

end Sequencing

section Arr

variable (K : Kept R) (A : ∀ s a, R s (State.setArr s a))
include K A

theorem Kept.itcCycle (fill : Byte) (i : Nat) (found : Bool) (s : State) :
    R s (itcCycle fill i found s).state := by
  unfold Machine.itcCycle
  split
  · exact K.refl s
  · refine K.bind (K.trans (K.trans (K.countQ s) (A _ _)) (K.readAt _ _ _)) fun x t => ?_
    split
    · exact K.endCycle _
    · exact K.bind (K.writeAt _ _ _) fun _ u =>
        K.trans (K.pointers u (u.lsr8 + 1) u.lsr9) (K.endCycle _)

theorem Kept.itcRun (q : Byte) (s : State) : R s (itcRun q s).state := by
  refine K.bind (K.takeOp2 _) fun fill t =>
    K.bind (K.loop (fun i a t => K.itcCycle A fill i a t) _ _ _ _) fun f u => ?_
  simp only [Res.state_ok]
  split
  · exact K.refl _
  · exact A _ _

theorem Kept.takeArr (s : State) : R s s.takeArr.state := K.bind (K.readAt _ _ _) fun _ _ => A _ _

theorem Kept.clearNegativeZero (s : State) : R s s.clearNegativeZero.state :=
  K.bind (K.trans (K.startRecomplement s) (K.takeArr A _)) fun _ _ => K.trans (K.setCarry _ _) (K.writeAt _ _ _)

theorem Kept.recomplementCycle (n1 : Bool) (i : Nat) (a : RecompAcc) (s : State) :
    R s (recomplementCycle n1 i a s).state := by
  refine K.bind (K.trans ?_ (K.takeArr A _)) fun _ _ =>
    K.bind (K.trans (K.setCarry _ _) (K.writeAt _ _ _)) fun _ _ => K.refl _
  split
  · exact K.refl s
  · exact K.setQ s _

end Arr

section Psr

variable (K : Kept R) (P : ∀ s b, R s (State.setPsr s b))
include K P

theorem Kept.clcCycle (i : Nat) (a : Unit) (s : State) : R s (clcCycle i a s).state :=
  K.bind (K.trans (K.countQ s) (K.takeOp2 _)) fun _ _ => K.bind (K.takeOp1 _) fun _ _ =>
    K.trans (P _ _) (K.endCycle _)

theorem Kept.testOp1 (f : Byte → Bool) (s : State) : R s (testOp1 f s).state :=
  K.bind (K.takeOp1 _) fun _ _ => K.trans (P _ _) (K.endCycle _)

theorem Kept.zazRun (A : ∀ s a, R s (State.setArr s a)) (q : Byte) (s : State) : R s (zazRun q s).state := by
  refine K.bind (K.loop (K.zazCycle _) _ _ _ _) fun a t => K.bind ?_ fun _ _ => P _ _
  split
  · exact K.clearNegativeZero A _
  · exact K.refl _

theorem Kept.settleAdd (A : ∀ s a, R s (State.setArr s a)) (l1 : Nat) (a : AddAcc) (s : State) :
    R s (settleAdd l1 a s).state := by
  have first : ∀ c : Bool, R s (if c then s.setPsr (setFlag s.psr psrDO true) else s) := by
    intro c
    cases c
    · exact K.refl s
    · exact P _ _
  unfold Machine.settleAdd
  simp only []
  split
  · exact K.bind (K.trans (first _) (K.trans (K.startRecomplement _)
      (K.loop (fun i a t => K.recomplementCycle A _ i a t) _ _ _ _))) fun _ _ => P _ _
  · split
    · exact K.bind (K.trans (first _) (K.clearNegativeZero A _)) fun _ _ => P _ _
    · exact K.trans (first _) (P _ _)

end Psr

/-- What an execution phase cannot go beyond is kept (R80, R84-R86). -/
theorem kept_within : Kept Within where
  refl := Within.refl
  trans := Within.trans
  readAt := within_readAt
  writeAt := within_writeAt
  sequencing _ _ _ _ _ _ _ _ _ _ _ _ := .of_same (by simp [SameControl]) rfl rfl

/-- A value read from a state that neither an access, a stop nor the sequencing registers touch is kept. -/
theorem kept_value (φ : State → β) (msar : ∀ s la, φ (State.setMsar s la) = φ s)
    (compare : ∀ s la ra, φ (State.compare s la ra) = φ s) (put : ∀ s ra b, φ (State.putByte s ra b) = φ s)
    (stop : ∀ s e, φ (State.stop s e) = φ s)
    (seq : ∀ (s : State) (l8 l9 m : Word) (qr qb lq : Byte) (f c r k hit : Bool),
      φ { s with
        lsr8 := l8, lsr9 := l9, msar := m, qReg := qr, qBackup := qb, lsr11Q := lq, firstCycle := f
        complement := c, recomplement := r, carry := k, compareHit := hit } = φ s) :
    Kept fun s t => φ t = φ s where
  refl _ := rfl
  trans h h' := h'.trans h
  readAt s k la := by
    rcases readAt_cases s k la with ⟨_, e⟩ | ⟨e, _, h⟩
    · rw [e]; simp [compare, msar]
    · rw [h]; simp [stop, msar]
  writeAt s la b := by
    rcases writeAt_cases s .op1 la b with ⟨_, e⟩ | ⟨e, _, h⟩
    · rw [e]; simp [put, compare, msar]
    · rw [h]; simp [stop, msar]
  sequencing := seq

end Sys2Proof.Machine
end

