-- ==== Sys2Proof/Tests/Slice0.lean ====
section
/-! SUPPORT. Tests: every constructor's decoding on a word written out from spec/30_encoding.md R115 and R119,
the ill-formed terms `WellFormed` refuses, single steps on vectors of spec/95_test_vectors.md, and for each
statement with hypotheses a state and operands that meet them. -/

namespace Sys2Proof.Tests

open Sys2Proof Sys2Proof.Machine

set_option Elab.async false

/-- `s` with bytes stored from a real address on, the addresses of the first 64K wrapping at 64K. -/
def put (s : State) (a : RealAddr) : List Byte → State
  | [] => s
  | b :: bs => put (s.putByte a b) (if a = 0xFFFF then 0 else a + 1) bs

/-- The reset state with the clock started and the IAR set. -/
def running (iar : Word) : State := { State.reset with clockRun := true, iar := iar }

/-- `s` with the PMR and one address translation register set. -/
def translated (s : State) (pmr : Byte) (n : Fin 64) (b : Byte) : State :=
  { s with pmr := pmr, atr := s.atr.set n b }

/-- A next state of which `p` holds. -/
def nextHas (r : Host.Outcome State Fault Refusal) (p : State → Bool) : Bool :=
  match r with
  | .next t => p t
  | .fault _ => false
  | .refused _ => false

/-- The `n` bytes from a real address on. -/
def got (s : State) (a : RealAddr) : Nat → List Byte
  | 0 => []
  | n + 1 => s.byteAt a :: got s (if a = 0xFFFF then 0 else a + 1) n

/-- No stop: the clock runs on. -/
def ran (t : State) : Bool := t.stopped.isNone && t.clockRun && !t.level5

/-- Stopped on `e`, with the clock off and level 5 requested. -/
def stoppedOn (t : State) (e : StopEvent) : Bool :=
  t.stopped == some e && !t.clockRun && t.level5

/-! ## Decoding -/

/-- The words of `ZAZ` by R119 and R115. -/
theorem test_decode_zaz :
    decode [0x04, 0x21, 0x30, 0x02, 0x40, 0x01] = .ok (.zazX00 0x21 0x3002 0x4001) [] ∧
    decode [0x14, 0x21, 0x30, 0x02, 0x01] = .ok (.zazX01 0x21 0x3002 0x01) [] ∧
    decode [0x24, 0x21, 0x30, 0x02, 0x01] = .ok (.zazX02 0x21 0x3002 0x01) [] ∧
    decode [0x44, 0x21, 0x02, 0x40, 0x01] = .ok (.zazX10 0x21 0x02 0x4001) [] ∧
    decode [0x54, 0x21, 0x02, 0x01] = .ok (.zazX11 0x21 0x02 0x01) [] ∧
    decode [0x64, 0x21, 0x02, 0x01] = .ok (.zazX12 0x21 0x02 0x01) [] ∧
    decode [0x84, 0x21, 0x02, 0x40, 0x01] = .ok (.zazX20 0x21 0x02 0x4001) [] ∧
    decode [0x94, 0x21, 0x02, 0x01] = .ok (.zazX21 0x21 0x02 0x01) [] ∧
    decode [0xA4, 0x21, 0x02, 0x01] = .ok (.zazX22 0x21 0x02 0x01) [] := by decide

/-- The words of `AZ` by R119 and R115. -/
theorem test_decode_az :
    decode [0x06, 0x21, 0x30, 0x02, 0x40, 0x01] = .ok (.azX00 0x21 0x3002 0x4001) [] ∧
    decode [0x16, 0x21, 0x30, 0x02, 0x01] = .ok (.azX01 0x21 0x3002 0x01) [] ∧
    decode [0x26, 0x21, 0x30, 0x02, 0x01] = .ok (.azX02 0x21 0x3002 0x01) [] ∧
    decode [0x46, 0x21, 0x02, 0x40, 0x01] = .ok (.azX10 0x21 0x02 0x4001) [] ∧
    decode [0x56, 0x21, 0x02, 0x01] = .ok (.azX11 0x21 0x02 0x01) [] ∧
    decode [0x66, 0x21, 0x02, 0x01] = .ok (.azX12 0x21 0x02 0x01) [] ∧
    decode [0x86, 0x21, 0x02, 0x40, 0x01] = .ok (.azX20 0x21 0x02 0x4001) [] ∧
    decode [0x96, 0x21, 0x02, 0x01] = .ok (.azX21 0x21 0x02 0x01) [] ∧
    decode [0xA6, 0x21, 0x02, 0x01] = .ok (.azX22 0x21 0x02 0x01) [] := by decide

/-- The words of `SZ` by R119 and R115. -/
theorem test_decode_sz :
    decode [0x07, 0x21, 0x30, 0x02, 0x40, 0x01] = .ok (.szX00 0x21 0x3002 0x4001) [] ∧
    decode [0x17, 0x21, 0x30, 0x02, 0x01] = .ok (.szX01 0x21 0x3002 0x01) [] ∧
    decode [0x27, 0x21, 0x30, 0x02, 0x01] = .ok (.szX02 0x21 0x3002 0x01) [] ∧
    decode [0x47, 0x21, 0x02, 0x40, 0x01] = .ok (.szX10 0x21 0x02 0x4001) [] ∧
    decode [0x57, 0x21, 0x02, 0x01] = .ok (.szX11 0x21 0x02 0x01) [] ∧
    decode [0x67, 0x21, 0x02, 0x01] = .ok (.szX12 0x21 0x02 0x01) [] ∧
    decode [0x87, 0x21, 0x02, 0x40, 0x01] = .ok (.szX20 0x21 0x02 0x4001) [] ∧
    decode [0x97, 0x21, 0x02, 0x01] = .ok (.szX21 0x21 0x02 0x01) [] ∧
    decode [0xA7, 0x21, 0x02, 0x01] = .ok (.szX22 0x21 0x02 0x01) [] := by decide

/-- The words of `MVX` by R119 and R115. -/
theorem test_decode_mvx :
    decode [0x08, 0x21, 0x30, 0x02, 0x40, 0x01] = .ok (.mvxX00 0x21 0x3002 0x4001) [] ∧
    decode [0x18, 0x21, 0x30, 0x02, 0x01] = .ok (.mvxX01 0x21 0x3002 0x01) [] ∧
    decode [0x28, 0x21, 0x30, 0x02, 0x01] = .ok (.mvxX02 0x21 0x3002 0x01) [] ∧
    decode [0x48, 0x21, 0x02, 0x40, 0x01] = .ok (.mvxX10 0x21 0x02 0x4001) [] ∧
    decode [0x58, 0x21, 0x02, 0x01] = .ok (.mvxX11 0x21 0x02 0x01) [] ∧
    decode [0x68, 0x21, 0x02, 0x01] = .ok (.mvxX12 0x21 0x02 0x01) [] ∧
    decode [0x88, 0x21, 0x02, 0x40, 0x01] = .ok (.mvxX20 0x21 0x02 0x4001) [] ∧
    decode [0x98, 0x21, 0x02, 0x01] = .ok (.mvxX21 0x21 0x02 0x01) [] ∧
    decode [0xA8, 0x21, 0x02, 0x01] = .ok (.mvxX22 0x21 0x02 0x01) [] := by decide

/-- The words of `ED` by R119 and R115. -/
theorem test_decode_ed :
    decode [0x0A, 0x21, 0x30, 0x02, 0x40, 0x01] = .ok (.edX00 0x21 0x3002 0x4001) [] ∧
    decode [0x1A, 0x21, 0x30, 0x02, 0x01] = .ok (.edX01 0x21 0x3002 0x01) [] ∧
    decode [0x2A, 0x21, 0x30, 0x02, 0x01] = .ok (.edX02 0x21 0x3002 0x01) [] ∧
    decode [0x4A, 0x21, 0x02, 0x40, 0x01] = .ok (.edX10 0x21 0x02 0x4001) [] ∧
    decode [0x5A, 0x21, 0x02, 0x01] = .ok (.edX11 0x21 0x02 0x01) [] ∧
    decode [0x6A, 0x21, 0x02, 0x01] = .ok (.edX12 0x21 0x02 0x01) [] ∧
    decode [0x8A, 0x21, 0x02, 0x40, 0x01] = .ok (.edX20 0x21 0x02 0x4001) [] ∧
    decode [0x9A, 0x21, 0x02, 0x01] = .ok (.edX21 0x21 0x02 0x01) [] ∧
    decode [0xAA, 0x21, 0x02, 0x01] = .ok (.edX22 0x21 0x02 0x01) [] := by decide

/-- The words of `ITC` by R119 and R115. -/
theorem test_decode_itc :
    decode [0x0B, 0x21, 0x30, 0x02, 0x40, 0x01] = .ok (.itcX00 0x21 0x3002 0x4001) [] ∧
    decode [0x1B, 0x21, 0x30, 0x02, 0x01] = .ok (.itcX01 0x21 0x3002 0x01) [] ∧
    decode [0x2B, 0x21, 0x30, 0x02, 0x01] = .ok (.itcX02 0x21 0x3002 0x01) [] ∧
    decode [0x4B, 0x21, 0x02, 0x40, 0x01] = .ok (.itcX10 0x21 0x02 0x4001) [] ∧
    decode [0x5B, 0x21, 0x02, 0x01] = .ok (.itcX11 0x21 0x02 0x01) [] ∧
    decode [0x6B, 0x21, 0x02, 0x01] = .ok (.itcX12 0x21 0x02 0x01) [] ∧
    decode [0x8B, 0x21, 0x02, 0x40, 0x01] = .ok (.itcX20 0x21 0x02 0x4001) [] ∧
    decode [0x9B, 0x21, 0x02, 0x01] = .ok (.itcX21 0x21 0x02 0x01) [] ∧
    decode [0xAB, 0x21, 0x02, 0x01] = .ok (.itcX22 0x21 0x02 0x01) [] := by decide

/-- The words of `MVC` by R119 and R115. -/
theorem test_decode_mvc :
    decode [0x0C, 0x21, 0x30, 0x02, 0x40, 0x01] = .ok (.mvcX00 0x21 0x3002 0x4001) [] ∧
    decode [0x1C, 0x21, 0x30, 0x02, 0x01] = .ok (.mvcX01 0x21 0x3002 0x01) [] ∧
    decode [0x2C, 0x21, 0x30, 0x02, 0x01] = .ok (.mvcX02 0x21 0x3002 0x01) [] ∧
    decode [0x4C, 0x21, 0x02, 0x40, 0x01] = .ok (.mvcX10 0x21 0x02 0x4001) [] ∧
    decode [0x5C, 0x21, 0x02, 0x01] = .ok (.mvcX11 0x21 0x02 0x01) [] ∧
    decode [0x6C, 0x21, 0x02, 0x01] = .ok (.mvcX12 0x21 0x02 0x01) [] ∧
    decode [0x8C, 0x21, 0x02, 0x40, 0x01] = .ok (.mvcX20 0x21 0x02 0x4001) [] ∧
    decode [0x9C, 0x21, 0x02, 0x01] = .ok (.mvcX21 0x21 0x02 0x01) [] ∧
    decode [0xAC, 0x21, 0x02, 0x01] = .ok (.mvcX22 0x21 0x02 0x01) [] := by decide

/-- The words of `CLC` by R119 and R115. -/
theorem test_decode_clc :
    decode [0x0D, 0x21, 0x30, 0x02, 0x40, 0x01] = .ok (.clcX00 0x21 0x3002 0x4001) [] ∧
    decode [0x1D, 0x21, 0x30, 0x02, 0x01] = .ok (.clcX01 0x21 0x3002 0x01) [] ∧
    decode [0x2D, 0x21, 0x30, 0x02, 0x01] = .ok (.clcX02 0x21 0x3002 0x01) [] ∧
    decode [0x4D, 0x21, 0x02, 0x40, 0x01] = .ok (.clcX10 0x21 0x02 0x4001) [] ∧
    decode [0x5D, 0x21, 0x02, 0x01] = .ok (.clcX11 0x21 0x02 0x01) [] ∧
    decode [0x6D, 0x21, 0x02, 0x01] = .ok (.clcX12 0x21 0x02 0x01) [] ∧
    decode [0x8D, 0x21, 0x02, 0x40, 0x01] = .ok (.clcX20 0x21 0x02 0x4001) [] ∧
    decode [0x9D, 0x21, 0x02, 0x01] = .ok (.clcX21 0x21 0x02 0x01) [] ∧
    decode [0xAD, 0x21, 0x02, 0x01] = .ok (.clcX22 0x21 0x02 0x01) [] := by decide

/-- The words of `ALC` by R119 and R115. -/
theorem test_decode_alc :
    decode [0x0E, 0x21, 0x30, 0x02, 0x40, 0x01] = .ok (.alcX00 0x21 0x3002 0x4001) [] ∧
    decode [0x1E, 0x21, 0x30, 0x02, 0x01] = .ok (.alcX01 0x21 0x3002 0x01) [] ∧
    decode [0x2E, 0x21, 0x30, 0x02, 0x01] = .ok (.alcX02 0x21 0x3002 0x01) [] ∧
    decode [0x4E, 0x21, 0x02, 0x40, 0x01] = .ok (.alcX10 0x21 0x02 0x4001) [] ∧
    decode [0x5E, 0x21, 0x02, 0x01] = .ok (.alcX11 0x21 0x02 0x01) [] ∧
    decode [0x6E, 0x21, 0x02, 0x01] = .ok (.alcX12 0x21 0x02 0x01) [] ∧
    decode [0x8E, 0x21, 0x02, 0x40, 0x01] = .ok (.alcX20 0x21 0x02 0x4001) [] ∧
    decode [0x9E, 0x21, 0x02, 0x01] = .ok (.alcX21 0x21 0x02 0x01) [] ∧
    decode [0xAE, 0x21, 0x02, 0x01] = .ok (.alcX22 0x21 0x02 0x01) [] := by decide

/-- The words of `SLC` by R119 and R115. -/
theorem test_decode_slc :
    decode [0x0F, 0x21, 0x30, 0x02, 0x40, 0x01] = .ok (.slcX00 0x21 0x3002 0x4001) [] ∧
    decode [0x1F, 0x21, 0x30, 0x02, 0x01] = .ok (.slcX01 0x21 0x3002 0x01) [] ∧
    decode [0x2F, 0x21, 0x30, 0x02, 0x01] = .ok (.slcX02 0x21 0x3002 0x01) [] ∧
    decode [0x4F, 0x21, 0x02, 0x40, 0x01] = .ok (.slcX10 0x21 0x02 0x4001) [] ∧
    decode [0x5F, 0x21, 0x02, 0x01] = .ok (.slcX11 0x21 0x02 0x01) [] ∧
    decode [0x6F, 0x21, 0x02, 0x01] = .ok (.slcX12 0x21 0x02 0x01) [] ∧
    decode [0x8F, 0x21, 0x02, 0x40, 0x01] = .ok (.slcX20 0x21 0x02 0x4001) [] ∧
    decode [0x9F, 0x21, 0x02, 0x01] = .ok (.slcX21 0x21 0x02 0x01) [] ∧
    decode [0xAF, 0x21, 0x02, 0x01] = .ok (.slcX22 0x21 0x02 0x01) [] := by decide

/-- The words of `ST` by R119 and R115. -/
theorem test_decode_st :
    decode [0x34, 0x21, 0x30, 0x02] = .ok (.stY0 0x21 0x3002) [] ∧
    decode [0x74, 0x21, 0x02] = .ok (.stY1 0x21 0x02) [] ∧
    decode [0xB4, 0x21, 0x02] = .ok (.stY2 0x21 0x02) [] := by decide

/-- The words of `L` by R119 and R115. -/
theorem test_decode_l :
    decode [0x35, 0x21, 0x30, 0x02] = .ok (.lY0 0x21 0x3002) [] ∧
    decode [0x75, 0x21, 0x02] = .ok (.lY1 0x21 0x02) [] ∧
    decode [0xB5, 0x21, 0x02] = .ok (.lY2 0x21 0x02) [] := by decide

/-- The words of `A` by R119 and R115. -/
theorem test_decode_a :
    decode [0x36, 0x21, 0x30, 0x02] = .ok (.aY0 0x21 0x3002) [] ∧
    decode [0x76, 0x21, 0x02] = .ok (.aY1 0x21 0x02) [] ∧
    decode [0xB6, 0x21, 0x02] = .ok (.aY2 0x21 0x02) [] := by decide

/-- The words of `TBN` by R119 and R115. -/
theorem test_decode_tbn :
    decode [0x38, 0x21, 0x30, 0x02] = .ok (.tbnY0 0x21 0x3002) [] ∧
    decode [0x78, 0x21, 0x02] = .ok (.tbnY1 0x21 0x02) [] ∧
    decode [0xB8, 0x21, 0x02] = .ok (.tbnY2 0x21 0x02) [] := by decide

/-- The words of `TBF` by R119 and R115. -/
theorem test_decode_tbf :
    decode [0x39, 0x21, 0x30, 0x02] = .ok (.tbfY0 0x21 0x3002) [] ∧
    decode [0x79, 0x21, 0x02] = .ok (.tbfY1 0x21 0x02) [] ∧
    decode [0xB9, 0x21, 0x02] = .ok (.tbfY2 0x21 0x02) [] := by decide

/-- The words of `SBN` by R119 and R115. -/
theorem test_decode_sbn :
    decode [0x3A, 0x21, 0x30, 0x02] = .ok (.sbnY0 0x21 0x3002) [] ∧
    decode [0x7A, 0x21, 0x02] = .ok (.sbnY1 0x21 0x02) [] ∧
    decode [0xBA, 0x21, 0x02] = .ok (.sbnY2 0x21 0x02) [] := by decide

/-- The words of `SBF` by R119 and R115. -/
theorem test_decode_sbf :
    decode [0x3B, 0x21, 0x30, 0x02] = .ok (.sbfY0 0x21 0x3002) [] ∧
    decode [0x7B, 0x21, 0x02] = .ok (.sbfY1 0x21 0x02) [] ∧
    decode [0xBB, 0x21, 0x02] = .ok (.sbfY2 0x21 0x02) [] := by decide

/-- The words of `MVI` by R119 and R115. -/
theorem test_decode_mvi :
    decode [0x3C, 0x21, 0x30, 0x02] = .ok (.mviY0 0x21 0x3002) [] ∧
    decode [0x7C, 0x21, 0x02] = .ok (.mviY1 0x21 0x02) [] ∧
    decode [0xBC, 0x21, 0x02] = .ok (.mviY2 0x21 0x02) [] := by decide

/-- The words of `CLI` by R119 and R115. -/
theorem test_decode_cli :
    decode [0x3D, 0x21, 0x30, 0x02] = .ok (.cliY0 0x21 0x3002) [] ∧
    decode [0x7D, 0x21, 0x02] = .ok (.cliY1 0x21 0x02) [] ∧
    decode [0xBD, 0x21, 0x02] = .ok (.cliY2 0x21 0x02) [] := by decide

/-- The words of `BC` by R119 and R115. -/
theorem test_decode_bc :
    decode [0xC0, 0x21, 0x30, 0x02] = .ok (.bcZ0 0x21 0x3002) [] ∧
    decode [0xD0, 0x21, 0x02] = .ok (.bcZ1 0x21 0x02) [] ∧
    decode [0xE0, 0x21, 0x02] = .ok (.bcZ2 0x21 0x02) [] := by decide

/-- The words of `LA` by R119 and R115. -/
theorem test_decode_la :
    decode [0xC2, 0x21, 0x30, 0x02] = .ok (.laZ0 0x21 0x3002) [] ∧
    decode [0xD2, 0x21, 0x02] = .ok (.laZ1 0x21 0x02) [] ∧
    decode [0xE2, 0x21, 0x02] = .ok (.laZ2 0x21 0x02) [] := by decide

/-- The words of `JC` by R119 and R115. -/
theorem test_decode_jc :
    decode [0xF2, 0x21, 0x5A] = .ok (.jc 0x21 0x5A) [] := by decide

/-- The words of `SVC` by R119 and R115. -/
theorem test_decode_svc :
    decode [0xF4, 0x21, 0x5A] = .ok (.svc 0x21 0x5A) [] := by decide

/-- The words of `LPMR` by R119 and R115. -/
theorem test_decode_lpmr :
    decode [0xF6, 0x21, 0x5A] = .ok (.lpmr 0x21 0x5A) [] := by decide

/-- The first bytes R119 leaves empty are rejected by name (R128). -/
theorem test_decode_undefined :
    decode [0x01, 0x00, 0x00] = .bad (.undefinedOp 0x01) ∧ decode [0xF0, 0x00, 0x00] = .bad (.undefinedOp 0xF0) ∧
    decode [0xC4, 0x00, 0x00, 0x00] = .bad (.undefinedOp 0xC4) := by decide

/-- A word that ends early does not decode. -/
theorem test_decode_short : decode [0x3C, 0x40, 0x01] = .bad .truncated := by decide

/-- The table's numbering: the first byte lowest; the bytes it gives no bits are zeros. -/
theorem test_decode_table_word :
    decodeTableWord 24 0x0E00F6 = some (.lpmr 0x00 0x0E) ∧ decodeTableWord 8 0x3C = some (.mviY0 0x00 0x0000) ∧
    decodeTableWord 8 0x01 = none := by decide

/-- `withFetchWord` places an instruction where the next step runs it. -/
theorem test_with_fetch_word :
    nextHas (step (State.reset.withFetchWord 24 0x0E00F6)) (fun t => ran t && t.pmr == 0x0E) = true := by
  decide +kernel

/-! ## Well-formedness -/

/-- `ST` with a reserved register-select Q-byte is ill formed, and refused (R129, V33, V34). -/
theorem test_wf_st_reserved_bit :
    ¬WellFormed (.stY0 0x40 0x0201) ∧
    (match exec (.stY0 0x40 0x0201) State.reset with
      | .refused (.undefinedQ q) => q == 0x40
      | _ => false) = true := by decide +kernel

/-- `ST` with a reserved register-select Q-byte is ill formed, and refused (R129, V33, V34). -/
theorem test_wf_st_two_bits :
    ¬WellFormed (.stY0 0x03 0x0201) ∧
    (match exec (.stY0 0x03 0x0201) State.reset with
      | .refused (.undefinedQ q) => q == 0x03
      | _ => false) = true := by decide +kernel

/-- `L` with a reserved register-select Q-byte is ill formed, and refused (R129, V33, V34). -/
theorem test_wf_l_reserved_bit :
    ¬WellFormed (.lY1 0x40 0x01) ∧
    (match exec (.lY1 0x40 0x01) State.reset with
      | .refused (.undefinedQ q) => q == 0x40
      | _ => false) = true := by decide +kernel

/-- `L` with a reserved register-select Q-byte is ill formed, and refused (R129, V33, V34). -/
theorem test_wf_l_two_bits :
    ¬WellFormed (.lY1 0x03 0x01) ∧
    (match exec (.lY1 0x03 0x01) State.reset with
      | .refused (.undefinedQ q) => q == 0x03
      | _ => false) = true := by decide +kernel

/-- `A` with a reserved register-select Q-byte is ill formed, and refused (R129, V33, V34). -/
theorem test_wf_a_reserved_bit :
    ¬WellFormed (.aY2 0x40 0x01) ∧
    (match exec (.aY2 0x40 0x01) State.reset with
      | .refused (.undefinedQ q) => q == 0x40
      | _ => false) = true := by decide +kernel

/-- `A` with a reserved register-select Q-byte is ill formed, and refused (R129, V33, V34). -/
theorem test_wf_a_two_bits :
    ¬WellFormed (.aY2 0x03 0x01) ∧
    (match exec (.aY2 0x03 0x01) State.reset with
      | .refused (.undefinedQ q) => q == 0x03
      | _ => false) = true := by decide +kernel

/-- The Q-bytes whose odd bits are ignored are well formed (D7, D18). -/
theorem test_wf_ignored_bits :
    WellFormed (.mvxX00 0xFF 0x1000 0x2000) ∧ WellFormed (.laZ0 0xFC 0x1234) ∧ WellFormed (.stY0 0x20 0x0201) ∧
    WellFormed (.lY0 0x00 0x0201) := by decide

/-! ## Single steps

Each is the vector of spec/95_test_vectors.md its name ends in. -/

theorem test_zaz_v1 :
    nextHas (step (put (put (put (running 0x0100) 0x0100 [0x04, 0x21, 0x30, 0x02, 0x40,
      0x01]) 0x4000 [0xF1, 0xD2]) 0x2FFF [0xAA, 0xBB, 0xCC, 0xDD])) (fun t =>
      got t 0x2FFF 4 == [0xF0, 0xF0, 0xF1, 0xD2] && t.psr == 0x02 && t.arr == 0x3002 && t.iar == 0x106 &&
      ran t) = true := by decide +kernel

theorem test_zaz_v2 :
    nextHas (step (put (put (running 0x0100) 0x0100 [0x04, 0x01, 0x30, 0x01, 0x40, 0x01]) 0x4000 [0xC0,
      0xD0])) (fun t =>
      got t 0x3000 2 == [0xF0, 0xF0] && t.psr == 0x01 && t.arr == 0x3000 && t.iar == 0x106 &&
      ran t) = true := by decide +kernel

theorem test_az_v8 :
    nextHas (step (put (put (put (running 0x0100) 0x0100 [0x06, 0x00, 0x30, 0x00, 0x40,
      0x00]) 0x3000 [0xF5]) 0x4000 [0xD7])) (fun t =>
      got t 0x3000 1 == [0xD2] && t.psr == 0x02 && t.arr == 0x2FFF && t.iar == 0x106 &&
      ran t) = true := by decide +kernel

theorem test_az_v10 :
    nextHas (step (put (put (put { running 0x0100 with psr := 0x39 } 0x0100 [0x06, 0x00, 0x30, 0x00, 0x40,
      0x00]) 0x3000 [0xF1]) 0x4000 [0xF1])) (fun t =>
      got t 0x3000 1 == [0xF2] && t.psr == 0x3C && t.arr == 0x3000 && t.iar == 0x106 &&
      ran t) = true := by decide +kernel

theorem test_sz_v14 :
    nextHas (step (put (put (put (running 0x0100) 0x0100 [0x07, 0x00, 0x30, 0x00, 0x40,
      0x00]) 0x3000 [0xD3]) 0x4000 [0xF5])) (fun t =>
      got t 0x3000 1 == [0xD8] && t.psr == 0x02 && t.arr == 0x3000 && t.iar == 0x106 &&
      ran t) = true := by decide +kernel

theorem test_sz_v15 :
    nextHas (step (put (put (put (running 0x0100) 0x0100 [0x07, 0x10, 0x30, 0x01, 0x40,
      0x00]) 0x3000 [0xF1, 0xF0]) 0x4000 [0xF1])) (fun t =>
      got t 0x3000 2 == [0xF0, 0xF9] && t.psr == 0x04 && t.arr == 0x3001 && t.iar == 0x106 &&
      ran t) = true := by decide +kernel

theorem test_alc_v21 :
    nextHas (step (put (put (put (running 0x0100) 0x0100 [0x0E, 0x01, 0x10, 0x01, 0x20,
      0x01]) 0x1000 [0xFF, 0xFF]) 0x2000 [0x00, 0x02])) (fun t =>
      got t 0x1000 2 == [0x00, 0x01] && t.psr == 0x24 && t.iar == 0x0106 &&
      ran t) = true := by decide +kernel

theorem test_alc_v22 :
    nextHas (step (put (put { running 0x0100 with psr := 0x39 } 0x0100 [0x0E, 0x01, 0x10, 0x01, 0x10,
      0x01]) 0x1000 [0x40, 0x80])) (fun t =>
      got t 0x1000 2 == [0x81, 0x00] && t.psr == 0x1A && t.iar == 0x0106 &&
      ran t) = true := by decide +kernel

theorem test_slc_v25 :
    nextHas (step (put (put (put (running 0x0100) 0x0100 [0x0F, 0x01, 0x10, 0x01, 0x20,
      0x01]) 0x1000 [0x01, 0x00]) 0x2000 [0x00, 0x01])) (fun t =>
      got t 0x1000 2 == [0x00, 0xFF] && t.psr == 0x04 && t.iar == 0x0106 &&
      ran t) = true := by decide +kernel

theorem test_slc_v26 :
    nextHas (step (put (put (put (running 0x0100) 0x0100 [0x0F, 0x01, 0x10, 0x01, 0x20,
      0x01]) 0x1000 [0x00, 0x00]) 0x2000 [0x00, 0x01])) (fun t =>
      got t 0x1000 2 == [0xFF, 0xFF] && t.psr == 0x02 && t.iar == 0x0106 &&
      ran t) = true := by decide +kernel

theorem test_a_v27 :
    nextHas (step (put (put { running 0x0100 with xr1 := 0x0005 } 0x0100 [0x36, 0x01, 0x02,
      0x01]) 0x0200 [0xFF, 0xFF])) (fun t =>
      t.psr == 0x24 && t.iar == 0x0104 && t.xr1 == 0x0004 && ran t) = true := by decide +kernel

theorem test_a_v29 :
    nextHas (step (put (put (running 0x0100) 0x0100 [0x36, 0x10, 0x02, 0x01]) 0x0200 [0x00,
      0x10])) (fun t =>
      t.psr == 0x02 && t.iar == 0x0114 && ran t) = true := by decide +kernel

theorem test_mvx_v41 :
    nextHas (step (put (put (put (running 0x0100) 0x0100 [0x08, 0x01, 0x10, 0x00, 0x20,
      0x00]) 0x1000 [0xAB]) 0x2000 [0xCD])) (fun t =>
      got t 0x1000 1 == [0xDB] && t.psr == 0x01 && t.iar == 0x0106 && ran t) = true := by decide +kernel

theorem test_mvx_v42 :
    nextHas (step (put (put (put (running 0x0100) 0x0100 [0x08, 0x02, 0x10, 0x00, 0x20,
      0x00]) 0x1000 [0xAB]) 0x2000 [0xCD])) (fun t =>
      got t 0x1000 1 == [0xAC] && t.psr == 0x01 && t.iar == 0x0106 && ran t) = true := by decide +kernel

theorem test_mvc_v46 :
    nextHas (step (put (put (running 0x0100) 0x0100 [0x0C, 0x02, 0x10, 0x03, 0x10, 0x02]) 0x1000 [0x01,
      0x02, 0x03, 0x04])) (fun t =>
      got t 0x1000 4 == [0x01, 0x01, 0x02, 0x03] && t.psr == 0x01 && t.iar == 0x0106 &&
      ran t) = true := by decide +kernel

theorem test_mvc_v157 :
    nextHas (step (put (put (put { running 0x2100 with pmr := 0x01 } 0x2100 [0x0C, 0x02, 0x20, 0x01, 0x30,
      0x02]) 0x3000 [0xC1, 0xC2, 0xC3]) 0x1FFF [0x00, 0x00, 0x00])) (fun t =>
      got t 0x1FFF 3 == [0x00, 0xC2, 0xC3] && t.iar == 0x2106 &&
      stoppedOn t (.protect 0x1FFF)) = true := by decide +kernel

theorem test_ed_v50 :
    nextHas (step (put (put (put (running 0x0100) 0x0100 [0x0A, 0x03, 0x10, 0x03, 0x20,
      0x01]) 0x1000 [0x20, 0x4B, 0x20, 0x20]) 0x1FFF [0xF1, 0xF2, 0xD3])) (fun t =>
      got t 0x1000 4 == [0xF1, 0x4B, 0xF2, 0xF3] && t.psr == 0x02 && t.iar == 0x0106 &&
      ran t) = true := by decide +kernel

theorem test_ed_v53 :
    nextHas (step (put (put (put { running 0x0100 with psr := 0x02 } 0x0100 [0x0A, 0x02, 0x10, 0x02, 0x20,
      0x01]) 0x1000 [0x20, 0x20, 0x5C]) 0x1FFF [0xF0, 0xF0, 0xF7])) (fun t =>
      got t 0x1000 3 == [0xF0, 0xF7, 0x5C] && t.psr == 0x04 && t.iar == 0x0106 &&
      ran t) = true := by decide +kernel

theorem test_itc_v61 :
    nextHas (step (put (put (put (running 0x0100) 0x0100 [0x0B, 0x03, 0x10, 0x00, 0x20,
      0x00]) 0x1000 [0xF7, 0xF0, 0xF0, 0xF0]) 0x2000 [0x40])) (fun t =>
      got t 0x1000 4 == [0xF7, 0xF0, 0xF0, 0xF0] && t.psr == 0x01 && t.arr == 0x1000 && t.iar == 0x106 &&
      ran t) = true := by decide +kernel

theorem test_itc_v62 :
    nextHas (step (put (put (running 0x0100) 0x0100 [0x0B, 0x02, 0x10, 0x00, 0x10, 0x01]) 0x1000 [0xF0,
      0x5C, 0xF0])) (fun t =>
      got t 0x1000 3 == [0x5C, 0x5C, 0x5C] && t.psr == 0x01 && t.arr == 0x1003 && t.iar == 0x106 &&
      ran t) = true := by decide +kernel

theorem test_mvi_v70 :
    nextHas (step (put { running 0x0100 with xr1 := 0xFFF8 } 0x0100 [0x7C, 0xFF, 0x10])) (fun t =>
      got t 0x8 1 == [0xFF] && t.psr == 0x01 && t.iar == 0x0103 && ran t) = true := by decide +kernel

theorem test_mvi_v155 :
    nextHas (step (put (put { running 0x2100 with pmr := 0x01 } 0x2100 [0x3C, 0xAA, 0x1F,
      0xFF]) 0x1FFF [0x55])) (fun t =>
      got t 0x1FFF 1 == [0x55] && t.iar == 0x2104 &&
      stoppedOn t (.protect 0x1FFF)) = true := by decide +kernel

theorem test_sbn_v73 :
    nextHas (step (put (put { running 0x0100 with xr2 := 0x4000 } 0x0100 [0xBA, 0x0F,
      0x01]) 0x4001 [0xA0])) (fun t =>
      got t 0x4001 1 == [0xAF] && t.psr == 0x01 && t.iar == 0x0103 && ran t) = true := by decide +kernel

theorem test_sbf_v72 :
    nextHas (step (put (put (running 0x0100) 0x0100 [0x3B, 0xFF, 0x02, 0x00]) 0x0200 [0x5A])) (fun t =>
      got t 0x200 1 == [0x00] && t.psr == 0x01 && t.iar == 0x0104 && ran t) = true := by decide +kernel

theorem test_st_v80 :
    nextHas (step (put { running 0x0100 with psr := 0x2A } 0x0100 [0x34, 0x04, 0x02, 0x01])) (fun t =>
      got t 0x200 2 == [0x04, 0x2A] && t.psr == 0x2A && t.iar == 0x0104 &&
      ran t) = true := by decide +kernel

theorem test_st_v82 :
    nextHas (step (put { running 0x0100 with arr := 0xBEEF } 0x0100 [0x34, 0x08, 0x00, 0x00])) (fun t =>
      got t 0x0 1 == [0xEF] && got t 0xFFFF 1 == [0xBE] && t.psr == 0x01 && t.iar == 0x0104 &&
      ran t) = true := by decide +kernel

theorem test_l_v84 :
    nextHas (step (put (put (running 0x0100) 0x0100 [0x35, 0x04, 0x02, 0x01]) 0x0200 [0x77,
      0xFF])) (fun t =>
      t.psr == 0x39 && t.iar == 0x0104 && t.lcrr == 0x77 && ran t) = true := by decide +kernel

theorem test_l_v87 :
    nextHas (step (put (put { running 0x0100 with arr := 0x1111 } 0x0100 [0x35, 0x10, 0x02,
      0x01]) 0x0200 [0x40, 0x00])) (fun t =>
      t.psr == 0x01 && t.iar == 0x4000 && t.arr == 0x1111 && ran t) = true := by decide +kernel

theorem test_la_v90 :
    nextHas (step (put (running 0x0100) 0x0100 [0xC2, 0x03, 0x12, 0x34])) (fun t =>
      t.iar == 0x0104 && t.xr1 == 0x1234 && t.xr2 == 0x0000 && ran t) = true := by decide +kernel

theorem test_la_v91 :
    nextHas (step (put { running 0x0100 with xr1 := 0xFFF0 } 0x0100 [0xD2, 0x01, 0x20])) (fun t =>
      t.iar == 0x0103 && t.xr1 == 0x0010 && t.xr2 == 0x0000 && ran t) = true := by decide +kernel

theorem test_cli_v100 :
    nextHas (step (put (put { running 0x0100 with psr := 0x39 } 0x0100 [0x3D, 0x80, 0x02,
      0x00]) 0x0200 [0x7F])) (fun t =>
      t.psr == 0x3A && t.iar == 0x0104 && ran t) = true := by decide +kernel

theorem test_cli_v152 :
    nextHas (step (put { translated (running 0x0100) 0x02 4 0xFF with psr := 0x04 } 0x0100 [0x3D, 0xAA,
      0x27, 0xFF])) (fun t =>
      t.psr == 0x04 && t.iar == 0x0104 && stoppedOn t (.protect 0x27FF)) = true := by decide +kernel

theorem test_clc_v103 :
    nextHas (step (put (put (put (running 0x0100) 0x0100 [0x0D, 0x02, 0x10, 0x02, 0x20,
      0x02]) 0x1000 [0x01, 0xFF, 0x00]) 0x2000 [0x02, 0x00, 0x00])) (fun t =>
      t.psr == 0x02 && t.iar == 0x0106 && ran t) = true := by decide +kernel

theorem test_clc_v105 :
    nextHas (step (put (put (put { running 0x0100 with psr := 0x04 } 0x0100 [0x0D, 0x01, 0x10, 0x01, 0x20,
      0x01]) 0x1000 [0x05, 0x01]) 0x2000 [0x05, 0x02])) (fun t =>
      t.psr == 0x02 && t.iar == 0x0106 && ran t) = true := by decide +kernel

theorem test_tbn_v106 :
    nextHas (step (put (put (running 0x0100) 0x0100 [0x38, 0xC0, 0x02, 0x00]) 0x0200 [0xC1])) (fun t =>
      t.psr == 0x01 && t.iar == 0x0104 && ran t) = true := by decide +kernel

theorem test_tbf_v109 :
    nextHas (step (put (put (running 0x0100) 0x0100 [0x39, 0x81, 0x02, 0x00]) 0x0200 [0x01])) (fun t =>
      t.psr == 0x11 && t.iar == 0x0104 && ran t) = true := by decide +kernel

theorem test_bc_v122 :
    nextHas (step (put { running 0x0100 with psr := 0x11 } 0x0100 [0xC0, 0x90, 0x02, 0x00])) (fun t =>
      t.psr == 0x01 && t.iar == 0x0200 && t.arr == 0x0104 && ran t) = true := by decide +kernel

theorem test_bc_v129 :
    nextHas (step (put { running 0x0100 with psr := 0x02, xr2 := 0xFF80 } 0x0100 [0xE0, 0x82,
      0xFF])) (fun t =>
      t.psr == 0x02 && t.iar == 0x007F && t.arr == 0x0103 && ran t) = true := by decide +kernel

theorem test_jc_v131 :
    nextHas (step (put (running 0xFFF0) 0xFFF0 [0xF2, 0x00, 0xFF])) (fun t =>
      t.psr == 0x01 && t.iar == 0x00F2 && t.arr == 0x0000 && ran t) = true := by decide +kernel

theorem test_jc_v132 :
    nextHas (step (put { running 0x0100 with psr := 0x19 } 0x0100 [0xF2, 0x98, 0x10])) (fun t =>
      t.psr == 0x01 && t.iar == 0x0113 && t.arr == 0x0000 && ran t) = true := by decide +kernel

theorem test_lpmr_v140 :
    nextHas (step (put (running 0x0100) 0x0100 [0xF6, 0x55, 0xFF])) (fun t =>
      t.psr == 0x01 && t.iar == 0x0103 && t.pmr == 0x8F && ran t) = true := by decide +kernel

theorem test_lpmr_v141 :
    nextHas (step (put { running 0x2100 with pmr := 0x01 } 0x2100 [0xF6, 0x00, 0x00])) (fun t =>
      t.psr == 0x01 && t.iar == 0x2103 && t.pmr == 0x01 &&
      stoppedOn t (.pmrAlter)) = true := by decide +kernel

theorem test_svc_v142 :
    nextHas (step (put (running 0x0100) 0x0100 [0xF4, 0x01, 0x04])) (fun t =>
      t.psr == 0x01 && t.iar == 0x0103 && t.lcrr == 0x04 && stoppedOn t (.supervisorCall 0x01 0x04) &&
      t.lsr11Q == 0x01) = true := by decide +kernel

theorem test_undefined_v143 :
    nextHas (step (put (running 0x0100) 0x0100 [0x01, 0x00])) (fun t =>
      t.psr == 0x01 && stoppedOn t (.nonexecutableOp 0x01)) = true := by decide +kernel

theorem test_translated_fetch_v158 :
    nextHas (step (put (put (translated (running 0x0100) 0x08 0 0x05) 0x0100 [0x3C, 0xAA, 0x01,
      0x00]) 0x2900 [0x3C, 0xBB, 0x03, 0x00])) (fun t =>
      got t 0x100 1 == [0x3C] && got t 0x300 1 == [0xBB] && t.iar == 0x0104 &&
      ran t) = true := by decide +kernel


/-! ## Hypotheses met

For each statement with hypotheses: a state and operands that meet them all, clause by clause where it has
several, at boundary values. `small` has 32K of storage, so that hex 8000 is the first address outside it. -/

/-- A running machine with 32K of storage. -/
def small (iar : Word) : State := { running iar with cfg := { Params.default with size := .k32 } }

/-- A machine with 32K of storage and the reset registers. -/
def idle : State := small 0

/-- Zoned fields: hex F1 F2 F3 at 1000 and F9 D5 at 2000, edit pattern 20 4B 20 at 3000. -/
def fields : State :=
  put (put (put idle 0x1000 [0xF1, 0xF2, 0xF3]) 0x2000 [0xF9, 0xD5]) 0x3000 [0x20, 0x4B, 0x20]

/-- `exec` answers a next state. -/
def goesOn (i : Instr) (s : State) : Bool := nextHas (exec i s) fun _ => true

theorem witness_EncodeOfDecode : decode [0xF6, 0x00, 0x0E, 0xFF] = .ok (.lpmr 0x00 0x0E) [0xFF] := by decide

/-- The last instruction of storage. -/
def atEnd : State := put (small 0x7FFD) 0x7FFD [0xF6, 0x00, 0x0E]

theorem witness_StepRunsDecodedInstruction :
    atEnd.clockRun = true ∧ atEnd.CodeReadable 3 ∧ decode (atEnd.codeBytes 3) = .ok (.lpmr 0x00 0x0E) [] ∧
    atEnd.host = [] ∧ { atEnd with host := [.awaitStop] }.CodeReadable 3 ∧
    decode ({ atEnd with host := [.awaitStop] }.codeBytes 3) = .ok (.lpmr 0x00 0x0E) [] ∧
    { atEnd with host := [.letInstruction] }.CodeReadable 3 ∧
    decode ({ atEnd with host := [.letInstruction] }.codeBytes 3) = .ok (.lpmr 0x00 0x0E) [] := by
  decide +kernel

theorem witness_EndOfInstructionAdds :
    (idle.stop .pmrAlter).stopped.isSome = true ∧
    (idle.stopped = none ∧ { idle with compareHit := true }.compareHit = true) ∧
    (idle.stopped = none ∧ idle.compareHit = false ∧ { idle with stepMode := true }.stepMode = true) ∧
    idle.stepMode = false := by decide +kernel

theorem witness_StepStopsAtUndefinedOp :
    (small 0x7FFE).host = [] ∧ (small 0x7FFE).clockRun = true ∧ (small 0x7FFE).CodeReadable 2 ∧
    headerOf ((small 0x7FFE).peek .i 0x7FFE) = none := by decide +kernel

/-- `ZAZ` whose sixth byte lies outside storage. -/
def sixth : State := put (small 0x7FFB) 0x7FFB [0x04]

/-- A direct `BC` whose fourth byte lies outside storage. -/
def branchAtEnd (q : Byte) : State := put (small 0x7FFD) 0x7FFD [0xC0, q]

theorem witness_FetchFaultLeavesIarAtFailingByte :
    ((small 0x8000).CodeReadable 0 ∧ (small 0x8000).readCheck .i 0x8000 = .error (.invalidAddress 0x8000)) ∧
    ((small 0x7FFF).CodeReadable 1 ∧ (small 0x7FFF).readCheck .i 0x8000 = .error (.invalidAddress 0x8000)) ∧
    (sixth.CodeReadable 5 ∧ sixth.readCheck .i (sixth.iar + 5) = .error (.invalidAddress 0x8000) ∧
      (headerOf (sixth.peek .i sixth.iar)).isSome = true ∧ 5 < formatLength (zone (sixth.peek .i sixth.iar))) ∧
    ((branchAtEnd 0x00).CodeReadable 3 ∧
      (branchAtEnd 0x00).readCheck .i 0x8000 = .error (.invalidAddress 0x8000) ∧
      3 < formatLength (zone 0xC0) ∧ (branchAtEnd 0x00).peek .i 0x7FFD = 0xC0 ∧
      Branches ((branchAtEnd 0x00).peek .i 0x7FFE) (branchAtEnd 0x00).psr) := by decide +kernel

/-- Byte 4 of a direct `BC` that branches is read through the ARR (spec/42_logical.md R238 (b)). -/
theorem test_branch_fault_leaves_arr :
    nextHas (step (branchAtEnd 0x00)) (fun t => t.arr == 0x8000 && t.iar == 0x8000) = true := by decide +kernel

theorem witness_UntakenDirectBranchSkipsItsLastByte :
    (branchAtEnd 0x80).host = [] ∧ (branchAtEnd 0x80).clockRun = true ∧ (branchAtEnd 0x80).stepMode = false ∧
    (branchAtEnd 0x80).ceAddressStop = false ∧ (branchAtEnd 0x80).stopped = none ∧
    (branchAtEnd 0x80).CodeReadable 3 ∧ (branchAtEnd 0x80).peek .i 0x7FFD = 0xC0 ∧
    ¬Branches ((branchAtEnd 0x80).peek .i 0x7FFE) (branchAtEnd 0x80).psr := by decide +kernel

theorem witness_StepStuckWhenClockStopped : State.reset.host = [] ∧ State.reset.clockRun = false := by decide

/-- `SystemResetSetsEqual`, `StatusByte1Loads`, `ControlProcessorLoadsRegisters`,
`ControlProcessorLoadsControlRegisters`: one pending action for each clause. -/
theorem witness_control_processor_actions :
    { idle with host := [.systemReset] }.host = .systemReset :: [] ∧
    { idle with host := [.loadStatusByte1 0xFF] }.host = .loadStatusByte1 0xFF :: [] ∧
    { idle with host := [.loadStatusByte1 0x00] }.host = .loadStatusByte1 0x00 :: [] ∧
    { idle with host := [.loadLsr 15 0x0102] }.host = .loadLsr 15 0x0102 :: [] ∧
    { idle with host := [.loadAtr 63 0xFF] }.host = .loadAtr 63 0xFF :: [] ∧
    { idle with host := [.loadPmr 0xFF] }.host = .loadPmr 0xFF :: [] ∧
    { idle with host := [.loadPsr 0xFF] }.host = .loadPsr 0xFF :: [] ∧
    { idle with host := [.loadCmr 0xFF] }.host = .loadCmr 0xFF :: [] ∧
    { idle with host := [.loadBmr 0xFF] }.host = .loadBmr 0xFF :: [] ∧
    { idle with host := [.loadCcr 0xFF] }.host = .loadCcr 0xFF :: [] ∧
    { idle with host := [.loadAcr 0x1FFFF] }.host = .loadAcr 0x1FFFF :: [] ∧
    { idle with host := [.resetStatusByte3] }.host = .resetStatusByte3 :: [] ∧
    { idle with host := [.acceptLevel5] }.host = .acceptLevel5 :: [] ∧
    { idle with host := [.senseRegister] }.host = .senseRegister :: [] ∧
    { idle with host := [.setProcessorError 0x03] }.host = .setProcessorError 0x03 :: [] ∧
    { idle with host := [.readStorage 0x7FFF] }.host = .readStorage 0x7FFF :: [] ∧
    { idle with host := [.readStorage 0x8000] }.host = .readStorage 0x8000 :: [] ∧ idle.cmr &&& 0x01 = 0 ∧
    { idle with host := [.setAddressStop true] }.host = .setAddressStop true :: [] ∧
    { idle with host := [.injectCheck .address] }.host = .injectCheck .address :: [] ∧
    { idle with host := [.injectCheck .msarParity] }.host = .injectCheck .msarParity :: [] := by decide

/-- A hardware check sets its bit of status byte 2 (spec/10_state.md R48, log 27, 31), and that of the MSAR bits 6
and 7 of status byte 3 (R49). -/
theorem test_injected_checks :
    nextHas (step { idle with host := [.injectCheck .storageGate] })
      (fun t => t.statusByte2 == 0x10 && t.sb3 == 0x00 && t.level5 && !t.clockRun) = true ∧
    nextHas (step { idle with host := [.injectCheck .msarParity] })
      (fun t => t.statusByte2 == 0x00 && t.sb3 == 0x03) = true := by decide +kernel

/-- A system reset stops a running clock and keeps the IAR (spec/10_state.md R57, R58; log 60). -/
theorem test_system_reset_stops_clock :
    nextHas (step { small 0x1234 with psr := 0x3C, host := [.systemReset] })
      (fun t => t.psr == 0x01 && !t.clockRun && t.iar == 0x1234) = true := by decide +kernel

/-- A check of the control processor replaces the one before it in the processor error byte, and its address is in
the MSAR (spec/60_exceptions.md R300, spec/20_memory.md R88). -/
theorem test_processor_check_replaces :
    nextHas (step { idle with processorError := 0x81, host := [.readStorage 0x8000] })
      (fun t => t.processorError == 0x82 && t.msar == 0x8000) = true := by decide +kernel

/-- Task page 0 protected, page 1 the last of storage, page 2 beyond it; I/O page 31 the first. -/
def paged : State :=
  { idle with cmr := 0x01, atr := ((idle.atr.set 0 0x40).set 1 0x0F).set 2 0x10 }

theorem witness_ControlProcessorStoresUnderCmr :
    Memory.wf paged.mem = true ∧ { paged with host := [.writeStorage 0x7FFF 0xAA] }.host =
      .writeStorage 0x7FFF 0xAA :: [] ∧
    (idle.cmr &&& 0x01 = 0 ∧ (0x7FFF#16).toNat < idle.cfg.size.bytes ∧ ¬(0x8000#16).toNat < idle.cfg.size.bytes) ∧
    (paged.cmr &&& 0x01 = 1 ∧ 64 ≤ (paged.atr.get 0).toNat ∧
      (paged.atr.get 1).toNat * 2048 + (0x0FFF#16).toNat % 2048 < paged.cfg.size.bytes ∧
      ¬(paged.atr.get 2).toNat * 2048 + (0x1000#16).toNat % 2048 < paged.cfg.size.bytes) ∧
    ({ paged with cmr := 0x03 }.cmr &&& 0x01 = 1 ∧
      (63 : Fin 64).val =
        (0xFFFF#16).toNat / 2048 + (if { paged with cmr := 0x03 }.cmr &&& 0x02 = 0x02 then 32 else 0)) := by
  decide +kernel

/-- The worked translation of spec/20_memory.md R82: 128K of storage, hex 2F in task register 4. -/
def linked : State :=
  { idle with pmr := 0x02, cfg := { idle.cfg with size := .k128 }, atr := idle.atr.set 4 0x2F }

/-- `ControlProcessorLoadsControlRegisters`: a translated read of the protected page, of the last of storage and of one
beyond it. -/
theorem witness_translated_reads :
    { paged with host := [.readStorage 0x07FF] }.host = .readStorage 0x07FF :: [] ∧ paged.cmr &&& 0x01 = 1 ∧
    64 ≤ (paged.atr.get 0).toNat ∧
    (paged.atr.get 1).toNat * 2048 + (0x0FFF#16).toNat % 2048 < paged.cfg.size.bytes ∧
    ¬(paged.atr.get 2).toNat * 2048 + (0x1000#16).toNat % 2048 < paged.cfg.size.bytes := by decide +kernel

theorem witness_TranslatedAddressFormsPage :
    State.reset.realOf .op1 0xFFFF = .ok 0xFFFF ∧ { paged with pmr := 0x02 }.realOf .op1 0x0FFF = .ok 0x7FFF ∧
    (linked.pmr &&& translateMask .op1 ≠ 0 ∧ linked.atr.get 4 = 0x2F ∧ 0x17FFF < linked.cfg.size.bytes) ∧
    linked.realOf .op1 0x2000 = .ok 0x17800 ∧ linked.realOf .op1 0x27FF = .ok 0x17FFF := by
  decide +kernel

theorem witness_AccessChecksDecideEachAccess :
    let s := { paged with pmr := 0x0F }
    (0 : Fin 64).val = (0x07FF#16).toNat / 2048 ∧ s.writeCheck .op1 0x07FF = .error (.protect 0x07FF) ∧
    (2 : Fin 64).val = (0x1000#16).toNat / 2048 ∧ s.writeCheck .op1 0x1000 = .error (.invalidAddress 0x1000) ∧
    (3 : Fin 64).val = (0x1800#16).toNat / 2048 ∧ s.writeCheck .op1 0x1800 = .error (.protect 0x1800) ∧
    (1 : Fin 64).val = (0x0FFF#16).toNat / 2048 ∧ s.writeCheck .op1 0x0FFF = .ok 0x7FFF := by decide +kernel

theorem witness_CardSwitchIsTransparent :
    Memory.wf fields.mem = true ∧ { fields with bmr := 0x02 }.cell 0x3FFF = 0x7FFF ∧
    { fields with bmr := 0x02 }.cell 0x4000 = 0x0000 ∧ { fields with bmr := 0x02 }.cell 0x8000 = 0x8000 ∧
    fields.cell 0x3FFF = 0x3FFF := by decide +kernel

theorem witness_StepKeepsInvariant : MachineInv atEnd ∧ nextHas (step atEnd) ran = true := by decide +kernel

theorem witness_ExecAnswersUnlessReservedSelect :
    WellFormed (.stY0 0x20 0x0201) ∧ ¬WellFormed (.stY0 0x21 0x0201) := by decide

/-- A byte outside the field that stays, one inside that changes; and a form that stores nothing. -/
theorem witness_StoresOnlyWhereOperand1MayWrite :
    Memory.wf idle.mem = true ∧
    (∀ la ∈ idle.storedAt (Instr.mviY0 0x40 0x7FFF).form, idle.writeCheck .op1 la ≠ .ok 0x7FFE) ∧
    nextHas (exec (.mviY0 0x40 0x7FFF) idle) (fun t => t.byteAt 0x7FFF != idle.byteAt 0x7FFF) = true ∧
    idle.storedAt (Instr.mvcX00 0x01 0x1001 0x2001).form = [0x1001, 0x1000] ∧
    idle.storedAt (Instr.itcX00 0x01 0x1001 0x2001).form = [0x1001, 0x1002] ∧
    idle.storedAt (Instr.cliY0 0x01 0x1001).form = [] ∧ goesOn (.cliY0 0x01 0x1001) idle = true := by
  have stored : idle.storedAt (Instr.mviY0 0x40 0x7FFF).form = [0x7FFF] := by decide +kernel
  refine ⟨by decide +kernel, fun la h => ?_, by decide +kernel⟩
  rw [stored, List.mem_singleton] at h
  subst h
  decide +kernel

/-- A nonprivileged task whose next instruction stores into the first 8K. -/
def lowStore : State := put { small 0x2100 with pmr := 0x01 } 0x2100 [0x3C, 0xAA, 0x1F, 0xFF]

theorem witness_NonprivilegedKeepsPmrAndFirst8K :
    MachineInv lowStore ∧ lowStore.pmr &&& 0x01 = 1 ∧ lowStore.host = [] ∧
    nextHas (step lowStore) (fun t => stoppedOn t (.protect 0x1FFF)) = true ∧
    nextHas (step { lowStore with host := [.awaitStop] }) (fun t => stoppedOn t (.protect 0x1FFF)) = true := by
  decide +kernel

/-- `ControlSideUntouched`, `IndexRegistersOnlyBy`, `ArrOnlyBy`, `LcrrOnlyBy`, `PsrUnchangedByListed`. -/
theorem witness_of_next_states :
    goesOn (.lpmr 0x00 0xFF) idle = true ∧
    goesOn (.mviY0 0x40 0x0100) idle = true ∧ (Instr.mviY0 0x40 0x0100).form.loadsIndex = false ∧
    goesOn (.lY0 0x08 0x0101) idle = true ∧ (Instr.lY0 0x08 0x0101).form.loadsIndex = false ∧
    goesOn (.bcZ0 0x80 0x0200) idle = true ∧ (Instr.bcZ0 0x80 0x0200).form.loadsArr idle.psr = false ∧
    goesOn (.svc 0x01 0x02) idle = true ∧ (Instr.svc 0x01 0x02).form.selectsPsr = false ∧
    goesOn (.lY0 0x01 0x0101) idle = true ∧ (Instr.lY0 0x01 0x0101).form.leavesPsr = true := by decide +kernel

theorem witness_StickyIndicatorsStay :
    let s := { idle with psr := 0x19 }
    (goesOn (.bcZ0 0x81 0x0200) s = true ∧ (Instr.bcZ0 0x81 0x0200).form.selectsPsr = false ∧
      flagOn s.psr psrDO = true ∧ (Instr.bcZ0 0x81 0x0200).form.tests 4 = false ∧
      flagOn s.psr psrTF = true ∧ (Instr.bcZ0 0x81 0x0200).form.tests 3 = false) ∧
    (flagOn fields.psr psrDO = false ∧
      nextHas (exec (.azX00 0x00 0x1000 0x2000) fields) (fun t => flagOn t.psr psrDO) = true) ∧
    (flagOn idle.psr psrTF = false ∧
      nextHas (exec (.tbnY0 0x01 0x1000) idle) (fun t => flagOn t.psr psrTF) = true) := by decide +kernel

theorem witness_BinaryOverflowOnlyBy :
    goesOn (.slcX00 0x00 0x1000 0x2000) idle = true ∧ (Instr.slcX00 0x00 0x1000 0x2000).form.selectsPsr = false ∧
    (Instr.slcX00 0x00 0x1000 0x2000).form.rewritesOverflow = false := by decide +kernel

/-- An `ED` with Equal on before; with Equal off and hex 20 at A1; with Equal off, another byte at A1 and a nonzero
digit moved. -/
theorem witness_OneConditionKept :
    let s := { fields with psr := 0x02 }
    goesOn (.edX00 0x02 0x3002 0x2001) fields = true ∧ OneCondition fields.psr ∧ Memory.wf fields.mem = true ∧
    (¬∃ o, (Instr.edX00 0x02 0x3002 0x2001).form = .one .a 0x04 o) ∧ flagOn fields.psr psrEQ = true ∧
    (goesOn (.edX00 0x02 0x3002 0x2001) s = true ∧ OneCondition s.psr ∧ s.peek .op1 0x3002 = 0x20) ∧
    (goesOn (.edX00 0x01 0x3001 0x2001) s = true ∧ s.peek .op1 0x3001 ≠ 0x20 ∧
      editsNonzero s 0x3001 0x2001 2 s.byteAt = true) := by
  refine ⟨by decide +kernel, by decide +kernel, by decide +kernel, ?_, by decide +kernel, by decide +kernel,
    by decide +kernel⟩
  rintro ⟨o, h⟩
  cases h

/-- `MviStoresImmediate`, `SbnSbfModifyMaskedBits`, `CliCompares`, `TbnTbfSetTestFalse`: an address that may be used,
and one that may not. -/
theorem witness_one_byte :
    Memory.wf idle.mem = true ∧ idle.canWrite .op1 (idle.address (.direct 0x7FFF)) = true ∧
    idle.canRead .op1 (idle.address (.direct 0x7FFF)) = true ∧
    idle.writeCheck .op1 (idle.address (.direct 0x8000)) = .error (.invalidAddress 0x8000) ∧
    idle.readCheck .op1 (idle.address (.direct 0x8000)) = .error (.invalidAddress 0x8000) := by decide +kernel

theorem witness_MvxMovesHalf :
    Memory.wf idle.mem = true ∧ idle.canRead .op2 (idle.address (.direct 0x0000)) = true ∧
    idle.canWrite .op1 (idle.address (.direct 0x7FFF)) = true ∧
    idle.MoveFaults (idle.address (.direct 0x0000)) (idle.address (.direct 0x8000)) (.invalidAddress 0x8000) ∧
    lowStore.MoveFaults (lowStore.address (.direct 0x1FFF)) (lowStore.address (.direct 0x0000)) (.protect 0x1FFF) := by
  decide +kernel

/-- `AlcSlcByteSerial`, `ClcComparesFields`: failing at the first byte, reading operand 2, and at the last of 256 on
operand 1. -/
theorem witness_serial_faults :
    (idle.FieldReadable .op2 0x8000 0 ∧ idle.FieldWritable 0x1000 0 ∧
      idle.MoveFaults (0x1000 - BitVec.ofNat 16 0) (0x8000 - BitVec.ofNat 16 0) (.invalidAddress 0x8000)) ∧
    (idle.FieldReadable .op2 0x7FFF 255 ∧ idle.FieldWritable 0x00FE 255 ∧ idle.FieldReadable .op1 0x00FE 255 ∧
      idle.MoveFaults (0x00FE - BitVec.ofNat 16 255) (0x7FFF - BitVec.ofNat 16 255) (.invalidAddress 0xFFFF) ∧
      idle.canRead .op2 (0x7FFF - BitVec.ofNat 16 255) = true ∧
      idle.readCheck .op1 (0x00FE - BitVec.ofNat 16 255) = .error (.invalidAddress 0xFFFF)) := by decide +kernel

/-- `CLC` that fails at its second byte shows the comparison of the first (spec/42_logical.md R231). -/
theorem test_clc_partial :
    nextHas (exec (.clcX00 0x01 0x1000 0x0000) (put idle 0x1000 [0x01]))
      (fun t => t.psr == 0x04 && stoppedOn t (.invalidAddress 0xFFFF)) = true := by decide +kernel

/-- `MvcCopiesByteSerially`, `AlcSlcByteSerial`, `ClcComparesFields`, and the `ED` of
`DecimalAndEditCompleteOnAnyBytes`: the longest field, and the shortest. -/
theorem witness_fields :
    Memory.wf fields.mem = true ∧ fields.FieldReadable .op2 0x20FF 256 ∧ fields.FieldWritable 0x7FFF 256 ∧
    fields.FieldReadable .op1 0x7FFF 256 ∧ fields.FieldReadable .op2 0x2001 1 ∧ fields.FieldWritable 0x1002 1 :=
  by decide +kernel

/-- `MvcMovesOrDuplicates`, `AlcAddsBinaryFields`, `SlcSubtractsBinaryFields`, beside the above: fields apart,
the same field, and a field moved to the right over itself. -/
theorem witness_distinct_kept :
    fields.FieldDistinct 0x7FFF 16 ∧ fields.SourceKept 0x7FFF 16 0x2001 16 ∧ fields.SourceKept 0x1002 3 0x1002 3 ∧
    fields.SourceKept 0x1003 3 0x1002 3 := by decide +kernel

theorem witness_MvcMovesOrDuplicates :
    fields.FieldReadable .op2 0x1003 4 ∧ fields.FieldWritable 0x1002 4 ∧
    fields.address (.direct 0x1003) = fields.address (.direct 0x1002) + 1 ∧
    fields.translates .op1 = fields.translates .op2 := by decide +kernel

/-- Failing at the first byte, reading, and at the last, storing. -/
theorem witness_MvcKeepsCompletedBytesOnFault :
    Memory.wf idle.mem = true ∧
    (idle.FieldReadable .op2 0x8000 0 ∧ idle.FieldWritable 0x1000 0 ∧
      idle.readCheck .op2 (0x8000 - BitVec.ofNat 16 0) = .error (.invalidAddress 0x8000) ∧
      idle.canRead .op2 (0x8000 - BitVec.ofNat 16 0) = false) ∧
    (idle.FieldReadable .op2 0x1002 2 ∧ idle.FieldWritable 0x0001 2 ∧
      idle.canRead .op2 (0x1002 - BitVec.ofNat 16 2) = true ∧
      idle.writeCheck .op1 (0x0001 - BitVec.ofNat 16 2) = .error (.invalidAddress 0xFFFF)) := by decide +kernel

theorem witness_StStoresSelectedRegister :
    Memory.wf idle.mem = true ∧ idle.selected 0x04 = some 0x0401 ∧ idle.selected 0x20 = some idle.iar ∧
    (idle.canWrite .op1 0x7FFF = true ∧ idle.canWrite .op1 (0x7FFF - 1) = true) ∧
    (idle.canWrite .op1 0x0000 = true ∧ idle.writeCheck .op1 (0x0000 - 1) = .error (.invalidAddress 0xFFFF)) ∧
    idle.writeCheck .op1 0x8000 = .error (.invalidAddress 0x8000) := by decide +kernel

/-- `LLoadsSelectedRegister`, `AAddsToSelectedRegister`, `AWithPsrLeavesStatusFree`. -/
theorem witness_L_and_A :
    idle.canRead .op1 (idle.address (.direct 0x7FFF)) = true ∧
    idle.canRead .op1 (idle.address (.direct 0x7FFF) - 1) = true ∧
    (idle.withSelected 0x08 0x0102).isSome = true ∧ (0x08 : Byte) ≠ 0x04 ∧ idle.selected 0x08 = some 0x0000 ∧
    idle.selected 0x04 = some 0x0401 ∧
    (idle.canRead .op1 (idle.address (.direct 0x0000)) = true ∧
      idle.readCheck .op1 (idle.address (.direct 0x0000) - 1) = .error (.invalidAddress 0xFFFF)) ∧
    idle.readCheck .op1 (idle.address (.direct 0x8000)) = .error (.invalidAddress 0x8000) := by
  decide +kernel

/-- `L` and `A` whose second read fails keep the low byte (spec/41_data_control.md R205, spec/60_exceptions.md
R292). -/
theorem test_second_read_fails :
    let s := put { idle with arr := 0x12F0 } 0x0000 [0x20]
    nextHas (exec (.lY0 0x08 0x0000) s) (fun t => t.arr == 0x1220 && stoppedOn t (.invalidAddress 0xFFFF)) = true ∧
    nextHas (exec (.aY0 0x08 0x0000) s) (fun t => t.arr == 0x1210 && t.carry && t.psr == s.psr) = true := by
  decide +kernel

/-- `BcBranches` and `JcJumps`. -/
theorem witness_branches :
    Branches 0x81 idle.psr ∧ ¬Branches 0x01 idle.psr ∧ Branches 0x00 0x3F ∧ ¬Branches 0x80 0x3F := by decide

theorem witness_SelectNoneIsIgnored : OneOp.st = .st ∨ OneOp.st = .l ∨ OneOp.st = .a := by decide

theorem witness_LpmrLoadsOrStops : idle.pmr &&& 0x01 = 0 ∧ lowStore.pmr &&& 0x01 = 1 := by decide +kernel

/-- A nonzero digit is moved; all digits are zero with Equal on before; and with a pattern that starts in hex
20. -/
theorem witness_EdReplacesHex20 :
    Memory.wf fields.mem = true ∧ fields.FieldReadable .op2 0x2001 3 ∧ 1 + fields.count20 0x3002 2 = 2 ∧
    fields.FieldReadable .op1 0x3002 3 ∧ fields.FieldWritable 0x3002 3 ∧ fields.FieldDistinct 0x3002 3 ∧
    fields.FieldsDisjoint 0x3002 3 0x2001 3 ∧
    (fields.peek .op1 0x3002 = 0x20 ∧
      fields.peek .op2 (0x2001 - BitVec.ofNat 16 (fields.count20 0x3002 0)) &&& 0x0F ≠ 0) ∧
    (fields.FieldReadable .op2 0x4001 3 ∧ fields.FieldsDisjoint 0x3002 3 0x4001 3) ∧
    (∀ i < 3, fields.peek .op1 (0x3002 - BitVec.ofNat 16 i) = 0x20 →
      fields.peek .op2 (0x4001 - BitVec.ofNat 16 (fields.count20 0x3002 i)) &&& 0x0F = 0) ∧
    fields.psr &&& 0x01 = 0x01 := by decide +kernel

/-- No byte filled, one filled, all filled. -/
theorem witness_ItcFillsToFirstSignificant :
    Memory.wf fields.mem = true ∧ fields.canRead .op2 0x2000 = true ∧
    (fields.canRead .op1 (0x1000 + BitVec.ofNat 16 0) = true ∧
      fields.cfg.itcSignificant (fields.peek .op1 (0x1000 + BitVec.ofNat 16 0)) = true) ∧
    ((∀ i < 1, fields.canWrite .op1 (0x0FFF + BitVec.ofNat 16 i) = true ∧
        fields.cfg.itcSignificant (fields.peek .op1 (0x0FFF + BitVec.ofNat 16 i)) = false) ∧
      fields.canRead .op1 (0x0FFF + BitVec.ofNat 16 1) = true ∧
      fields.cfg.itcSignificant (fields.peek .op1 (0x0FFF + BitVec.ofNat 16 1)) = true ∧
      ∀ i < 1, ∀ j < 3, i < j →
        fields.target .op1 (0x0FFF + BitVec.ofNat 16 i) ≠ fields.target .op1 (0x0FFF + BitVec.ofNat 16 j)) ∧
    (∀ i < 3, fields.canWrite .op1 (0x4000 + BitVec.ofNat 16 i) = true ∧
      fields.cfg.itcSignificant (fields.peek .op1 (0x4000 + BitVec.ofNat 16 i)) = false) ∧
    fields.readCheck .op2 0x8000 = .error (.invalidAddress 0x8000) ∧
    ((∀ i < 1, fields.canWrite .op1 (0x7FFF + BitVec.ofNat 16 i) = true ∧
        fields.cfg.itcSignificant (fields.peek .op1 (0x7FFF + BitVec.ofNat 16 i)) = false) ∧
      fields.readCheck .op1 (0x7FFF + BitVec.ofNat 16 1) = .error (.invalidAddress 0x8000)) ∧
    (lowStore.canRead .op2 0x2000 = true ∧ lowStore.canRead .op1 (0x1FFF + BitVec.ofNat 16 0) = true ∧
      lowStore.cfg.itcSignificant (lowStore.peek .op1 (0x1FFF + BitVec.ofNat 16 0)) = false ∧
      lowStore.writeCheck .op1 (0x1FFF + BitVec.ofNat 16 0) = .error (.protect 0x1FFF)) := by decide +kernel

/-- `ITC` that runs out of storage keeps what it filled, with the ARR at the byte it could not read
(spec/41_data_control.md R196). -/
theorem test_itc_fault :
    nextHas (exec (.itcX00 0x01 0x7FFF 0x1000) (put idle 0x1000 [0x5C]))
      (fun t => t.arr == 0x8000 && t.byteAt 0x7FFF == 0x5C && stoppedOn t (.invalidAddress 0x8000)) = true := by
  decide +kernel

/-- `ZazMovesSignedDigits`, `AzSzAddSignedDecimals`, `DecimalAndEditCompleteOnAnyBytes`. Q-byte hex 11: operand 2 of two
bytes, operand 1 of three; and hex FF: the longest fields. -/
theorem witness_decimal :
    Memory.wf fields.mem = true ∧ fields.FieldReadable .op2 0x2001 2 ∧ fields.FieldWritable 0x1002 3 ∧
    fields.FieldDistinct 0x1002 3 ∧ fields.SourceKept 0x1002 3 0x2001 2 ∧ fields.DecimalField .op1 0x1002 3 ∧
    fields.DecimalField .op2 0x2001 2 ∧ fields.FieldReadable .op2 0x2001 16 ∧ fields.FieldWritable 0x1002 31 ∧
    fields.FieldDistinct 0x1002 31 ∧ fields.SourceKept 0x1002 31 0x2001 16 ∧ fields.DecimalField .op1 0x1002 31 ∧
    fields.DecimalField .op2 0x2001 16 := by decide +kernel

end Sys2Proof.Tests
end

section
/-! PROOF. Bits of a byte by IBM number, as the masks the obligations write (spec/00_scope.md R8). -/

namespace Sys2Proof.Machine

theorem ibmBit_zero : ∀ b, ibmBit b 0 = decide (b &&& 0x80 = 0x80) := by decide +kernel
theorem ibmBit_one : ∀ b, ibmBit b 1 = decide (b &&& 0x40 = 0x40) := by decide +kernel
theorem ibmBit_two : ∀ b, ibmBit b 2 = decide (b &&& 0x20 = 0x20) := by decide +kernel
theorem ibmBit_six : ∀ b, ibmBit b 6 = decide (b &&& 0x02 = 0x02) := by decide +kernel
theorem ibmBit_seven : ∀ b, ibmBit b 7 = decide (b &&& 0x01 = 0x01) := by decide +kernel

theorem ibmBit_seven_eq_false : ∀ b, ibmBit b 7 = false ↔ b &&& 0x01 = 0 := by decide +kernel

end Sys2Proof.Machine
end

section
/-! PROOF. Frames of the two-address and type Y forms: what accesses and the sequencing keep, the
form keeps, given the register updates it makes. -/

namespace Sys2Proof.Machine

variable {R : State → State → Prop} {s t : State} {q : Byte} {o o1 o2 : Operand}

theorem outcome_eq_next {α : Type} {r : Res α} : r.outcome = .next t ↔ r.state = t := by
  rw [Res.outcome_eq, Host.Outcome.next.injEq]

/-- R124's table read backwards: the Q-bytes that select a register. -/
theorem selectOf_eq_reg {r : Reg} (h : selectOf q = .reg r) :
    q = 0x01 ∧ r = .xr1 ∨ q = 0x02 ∧ r = .xr2 ∨ q = 0x04 ∧ r = .psr ∨ q = 0x08 ∧ r = .arr ∨
      (q = 0x10 ∨ q = 0x20) ∧ r = .iar := by
  unfold selectOf at h
  split at h <;> cases h <;> decide

/-- What a register-select instruction does with the register its Q-byte names (R165, R202, R205). -/
def selectRun : OneOp → Option (Reg → State → Res Unit)
  | .st => some storeReg
  | .l => some loadReg
  | .a => some addTo
  | _ => none

/-- `ST`, `L` and `A` that answer a next state are ignored or have run on the register selected (R124, R129). -/
theorem selectForm_next {op : OneOp} {run : Reg → State → Res Unit} (hr : selectRun op = some run)
    (h : oneForm op q o s = .next t) :
    t = s.enterOne q o ∨ ∃ r, selectOf q = .reg r ∧ t = (run r (s.enterOne q o)).state := by
  have shape : oneForm op q o s =
      match selectOf q with
      | .ignored => .next (s.enterOne q o)
      | .reg r => (run r (s.enterOne q o)).outcome
      | .undefined => .refused (.undefinedQ q) := by
    cases op <;> cases hr <;> rfl
  rw [shape] at h
  cases hq : selectOf q with
  | ignored => rw [hq] at h; exact .inl (Host.Outcome.next.inj h).symm
  | reg r => rw [hq] at h; exact .inr ⟨r, rfl, (outcome_eq_next.mp h).symm⟩
  | undefined => rw [hq] at h; cases h

section Kept

variable (K : Kept R)
include K

theorem Kept.enterDecimal (A : ∀ s a, R s (State.setArr s a)) (s : State) (q : Byte) (o1 o2 : Operand) :
    R s (s.enterDecimal q o1 o2) :=
  K.trans (K.enterTwo s q o1 o2) (K.trans (A _ (s.address o1)) (K.setCarry _ false))

theorem Kept.edRun (P : ∀ s b, R s (State.setPsr s b)) (E : ∀ s, R s (State.freeEdit s)) (q : Byte)
    (wasEqual : Bool) (s : State) : R s (edRun q wasEqual s).state := by
  refine K.bind (K.loop K.edCycle _ _ _ _) fun a t => ?_
  split
  · exact P _ _
  · exact E _

theorem Kept.zonedAddSub (P : ∀ s b, R s (State.setPsr s b)) (A : ∀ s a, R s (State.setArr s a)) (sub : Bool)
    (q : Byte) (s : State) : R s (zonedAddSub sub q s).state :=
  K.bind (K.loop (K.addCycle sub _) _ _ _ _) fun _ _ => K.settleAdd P A _ _ _

theorem Kept.loadReg {r : Reg} (L : ∀ s b, R s (State.loadLow s r b)) (H : ∀ s b, R s (State.loadHigh s r b))
    (s : State) : R s (loadReg r s).state :=
  K.bind (K.takeOp1 _) fun _ _ => K.bind (K.trans (L _ _) (K.trans (K.endCycle _) (K.takeOp1 _))) fun _ _ => H _ _

theorem Kept.addToLsr {r : Reg} (L : ∀ s b, R s (State.loadLow s r b)) (H : ∀ s b, R s (State.loadHigh s r b))
    (P : ∀ s b, R s (State.setPsr s b)) (s : State) : R s (addToLsr r s).state :=
  K.bind (K.takeOp1 _) fun _ _ =>
    K.bind (K.trans (L _ _) (K.trans (K.setCarry _ _) (K.trans (K.endCycle _) (K.takeOp1 _)))) fun _ _ =>
      K.trans (H _ _) (K.trans (K.setCarry _ _) (P _ _))

theorem Kept.addToPsr (F : ∀ s, R s (State.freePsr s)) (G : ∀ s, R s (State.freeLcrr s))
    (C : ∀ s, R s (State.freeCarry s)) (s : State) : R s (addToPsr s).state :=
  K.bind (K.takeOp1 _) fun _ _ =>
    K.bind (K.trans (F _) (K.trans (C _) (K.trans (K.endCycle _) (K.takeOp1 _)))) fun _ _ => K.trans (G _) (C _)

/-- A two-address instruction keeps what accesses and the sequencing keep, with the PSR settings, the ARR and the
free condition of the forms that have them (R23, R28, R194). -/
theorem Kept.twoForm {op : TwoOp} (h : twoForm op q o1 o2 s = .next t)
    (P : (Form.two op q o1 o2).leavesPsr = false → ∀ s b, R s (State.setPsr s b))
    (A : (Form.two op q o1 o2).loadsArr s.psr = true → ∀ s a, R s (State.setArr s a))
    (E : op = .ed → ∀ s, R s (State.freeEdit s)) : R s t := by
  cases op <;> obtain rfl := outcome_eq_next.mp h
  case zaz => exact K.trans (K.enterDecimal (A rfl) s q o1 o2) (K.zazRun (P rfl) (A rfl) _ _)
  case az => exact K.trans (K.enterDecimal (A rfl) s q o1 o2) (K.zonedAddSub (P rfl) (A rfl) _ _ _)
  case sz => exact K.trans (K.enterDecimal (A rfl) s q o1 o2) (K.zonedAddSub (P rfl) (A rfl) _ _ _)
  case mvx => exact K.trans (K.enterTwo s q o1 o2) (K.mvxRun _ _)
  case ed => exact K.trans (K.enterTwo s q o1 o2) (K.edRun (P rfl) (E rfl) _ _ _)
  case itc => exact K.trans (K.enterTwo s q o1 o2) (K.itcRun (A rfl) _ _)
  case mvc => exact K.trans (K.enterTwo s q o1 o2) (K.loop K.mvcCycle _ _ _ _)
  case clc => exact K.trans (K.enterTwo s q o1 o2) (K.loop (K.clcCycle (P rfl)) _ _ _ _)
  case alc => exact K.trans (K.enterTwo s q o1 o2) (K.bind (K.loop K.alcCycle _ _ _ _) fun _ _ => P rfl _ _)
  case slc => exact K.trans (K.enterTwo s q o1 o2) (K.bind (K.loop K.slcCycle _ _ _ _) fun _ _ => P rfl _ _)

/-- A type Y instruction keeps what accesses and the sequencing keep, with the PSR settings of the forms that have
them and the register `L` and `A` select (R28, R124, R166). -/
theorem Kept.oneForm {op : OneOp} (h : oneForm op q o s = .next t)
    (P : (Form.one op q o).leavesPsr = false → ∀ s b, R s (State.setPsr s b))
    (L : op = .l ∨ op = .a → ∀ r, selectOf q = .reg r →
      ∀ s b, R s (State.loadLow s r b) ∧ R s (State.loadHigh s r b))
    (F : op = .a → q = 0x04 → ∀ s, R s (State.freePsr s) ∧ R s (State.freeLcrr s) ∧ R s (State.freeCarry s)) :
    R s t := by
  cases op
  case st =>
    obtain rfl | ⟨r, -, rfl⟩ := selectForm_next rfl h
    · exact K.enterOne s q o
    · exact K.trans (K.enterOne s q o) (K.storeReg r _)
  case l =>
    obtain rfl | ⟨r, hr, rfl⟩ := selectForm_next rfl h
    · exact K.enterOne s q o
    · have load := L (.inl rfl) r hr
      exact K.trans (K.enterOne s q o) (K.loadReg (fun s b => (load s b).1) (fun s b => (load s b).2) _)
  case a =>
    obtain rfl | ⟨r, hr, rfl⟩ := selectForm_next rfl h
    · exact K.enterOne s q o
    · have load := L (.inr rfl) r hr
      have toLsr (s : State) : R s (Machine.addToLsr r s).state :=
        K.addToLsr (fun s b => (load s b).1) (fun s b => (load s b).2) (P rfl) s
      refine K.trans (K.enterOne s q o) ?_
      cases r with
      | psr =>
        have free := F rfl (by simpa using selectOf_eq_reg hr)
        exact K.addToPsr (fun s => (free s).1) (fun s => (free s).2.1) (fun s => (free s).2.2) _
      | xr1 => exact toLsr _
      | xr2 => exact toLsr _
      | arr => exact toLsr _
      | iar => exact toLsr _
  case tbn => obtain rfl := outcome_eq_next.mp h; exact K.trans (K.enterOne s q o) (K.testOp1 (P rfl) _ _)
  case tbf => obtain rfl := outcome_eq_next.mp h; exact K.trans (K.enterOne s q o) (K.testOp1 (P rfl) _ _)
  case sbn => obtain rfl := outcome_eq_next.mp h; exact K.trans (K.enterOne s q o) (K.modifyOp1 _ _)
  case sbf => obtain rfl := outcome_eq_next.mp h; exact K.trans (K.enterOne s q o) (K.modifyOp1 _ _)
  case mvi =>
    obtain rfl := outcome_eq_next.mp h
    exact K.trans (K.enterOne s q o) (K.bind (K.storeOp1 _ _) fun _ _ => K.endCycle _)
  case cli =>
    obtain rfl := outcome_eq_next.mp h
    exact K.trans (K.enterOne s q o) (K.bind (K.takeOp1 _) fun _ _ => K.trans (P rfl _ _) (K.endCycle _))

end Kept
end Sys2Proof.Machine
end

section
/-! PROOF. What one instruction keeps, said once for every form, and the obligations about one
register (spec/10_state.md R22, R23, R28, R29, R40-R45). -/

namespace Sys2Proof

open Machine

/-- The register that `L` and `A` load (R124). -/
def Form.loads : Form → Select
  | .one .l q _ => selectOf q
  | .one .a q _ => selectOf q
  | _ => .ignored

end Sys2Proof

namespace Sys2Proof.Machine

variable {R : State → State → Prop} {s t : State} {i : Instr} {f : Form} {q : Byte} {o o1 o2 : Operand}

/-- `R` holds over the register updates that the form `f`, started in `s`, makes beside its accesses and the
sequencing: one entry for each register, under the condition that the form writes it at all (R22, R23, R28, R29,
R40). -/
structure Updates (R : State → State → Prop) (f : Form) (s : State) : Prop where
  iar : ∀ s a, R s (State.setIar s a) := by intros; rfl
  stop : ∀ s e, R s (State.stop s e) := by intros; rfl
  psr : f.leavesPsr = false → ∀ s b, R s (State.setPsr s b) := by intros; rfl
  arr : f.loadsArr s.psr = true → ∀ s a, R s (State.setArr s a) := by intros; rfl
  index : f.loadsIndex = true → ∀ s q v, R s (State.loadIndex s q v) := by intros; simp
  load : ∀ r, f.loads = .reg r → ∀ s b, R s (State.loadLow s r b) ∧ R s (State.loadHigh s r b)
  free : f.selectsPsr = true → ∀ s, R s (State.freePsr s) ∧ R s (State.freeLcrr s) ∧ R s (State.freeCarry s) := by
    intros; exact ⟨rfl, rfl, rfl⟩
  edit : f.isEdit = true → ∀ s, R s (State.freeEdit s) := by intros; rfl
  pmr : ∀ q r, f = .cmd .lpmr q r → s.nonprivileged = false → ∀ s, R s (State.setPmr s r) := by intros; rfl
  svc : ∀ q r, f = .cmd .svc q r → ∀ s : State, R s { s with opReg := 0xF4, lsr11Op := 0xF4, lcrr := r } := by
    intros; rfl

theorem Kept.addrForm (K : Kept R) {op : AddrOp} (U : Updates R (.addr op q o) s)
    (h : addrForm op q o s = .next t) : R s t := by
  cases op with
  | la => obtain rfl := Host.Outcome.next.inj h; exact K.trans (K.enterOne s q o) (U.index rfl _ _ _)
  | bc =>
    have reset : R s ((s.enter q).setPsr (resetTested q s.psr)) := K.trans (K.enter s q) (U.psr rfl _ _)
    simp only [Machine.addrForm, bcForm] at h
    split at h <;> obtain rfl := Host.Outcome.next.inj h
    · exact K.trans reset (K.trans (K.pointers _ (s.address o) s.lsr9)
        (K.trans (U.arr ‹_› _ s.iar) (U.iar _ (s.address o))))
    · exact K.trans reset (K.pointers _ (s.passedAddress o) s.lsr9)

theorem Kept.cmdForm (K : Kept R) {op : CmdOp} {r : Byte} (U : Updates R (.cmd op q r) s)
    (h : cmdForm op q r s = .next t) : R s t := by
  cases op <;> obtain rfl := Host.Outcome.next.inj h
  case jc =>
    have reset : R s ((s.enter q).setPsr (resetTested q s.psr)) := K.trans (K.enter s q) (U.psr rfl _ _)
    split
    · exact K.trans reset (U.iar _ _)
    · exact reset
  case lpmr =>
    refine K.trans (K.enter s q) ?_
    split
    · exact U.stop _ _
    · rename_i privileged
      exact U.pmr _ _ rfl (Bool.eq_false_iff.mpr privileged) _
  case svc =>
    exact K.trans (K.sequencing s s.lsr8 s.lsr9 s.msar q q q s.firstCycle s.complement s.recomplement s.carry
      s.compareHit) (K.trans (U.svc _ _ rfl _) (U.stop _ _))

/-- What accesses, the sequencing and the register updates of its form keep, an instruction keeps, completed or
stopped. -/
theorem Kept.exec (K : Kept R) (U : Updates R i.form s) (h : exec i s = .next t) : R s t := by
  rw [exec_eq_execForm] at h
  generalize i.form = f at U h
  cases f with
  | two op q o1 o2 =>
    exact K.twoForm h U.psr U.arr (by rintro rfl; exact U.edit rfl)
  | one op q o =>
    refine K.oneForm h U.psr (fun hop r hr => U.load r ?_) ?_
    · obtain rfl | rfl := hop <;> exact hr
    · rintro rfl rfl; exact U.free rfl
  | addr op q o => exact K.addrForm U h
  | cmd op q r => exact K.cmdForm U h

/-! ## Which forms load which register -/

/-- The register that is loaded, read off the architect's lists of forms (R22, R23, R205). -/
theorem loads_iff {r : Reg} (hr : f.loads = .reg r) :
    (f.loadsIndex = true ↔ r = .xr1 ∨ r = .xr2) ∧ (∀ p, f.loadsArr p = true ↔ r = .arr) ∧
      (f.selectsPsr = true ↔ r = .psr) := by
  unfold Form.loads at hr
  split at hr
  case h_3 => cases hr
  all_goals
    obtain ⟨rfl, rfl⟩ | ⟨rfl, rfl⟩ | ⟨rfl, rfl⟩ | ⟨rfl, rfl⟩ | ⟨rfl | rfl, rfl⟩ := selectOf_eq_reg hr <;>
      simp [Form.loadsIndex, Form.loadsArr, Form.selectsPsr]

/-- A form that leaves the PSR does not select it (R28). -/
theorem selectsPsr_of_leavesPsr (h : f.leavesPsr = true) : f.selectsPsr = false := by
  unfold Form.selectsPsr
  split <;> simp_all [Form.leavesPsr]

/-! ## The obligations about one register -/

/-- `kept_value` where each update leaves the value alone by unfolding. -/
theorem kept_field {β : Type} (φ : State → β) (msar : ∀ s la, φ (State.setMsar s la) = φ s := by intros; rfl)
    (compare : ∀ s la ra, φ (State.compare s la ra) = φ s := by intros; rfl)
    (put : ∀ s ra b, φ (State.putByte s ra b) = φ s := by intros; rfl)
    (stop : ∀ s e, φ (State.stop s e) = φ s := by intros; rfl)
    (seq : ∀ (s : State) (l8 l9 m : Word) (qr qb lq : Byte) (f c r k hit : Bool),
      φ { s with
        lsr8 := l8, lsr9 := l9, msar := m, qReg := qr, qBackup := qb, lsr11Q := lq, firstCycle := f
        complement := c, recomplement := r, carry := k, compareHit := hit } = φ s := by intros; rfl) :
    Kept fun s t => φ t = φ s :=
  kept_value φ msar compare put stop seq

/-- An instruction is known by its form (R119). -/
theorem eq_instr_of_form (h : i.form = f) : i = f.instr := h ▸ (instr_form i).symm

/-- Settles O26: of the register updates only those of `LA`, `L` and `A` reach XR1 and XR2. -/
theorem indexRegistersOnlyBy : Obligations.IndexRegistersOnlyBy := by
  intro i s t h hi
  refine Prod.mk.inj ((kept_field fun s => (s.xr1, s.xr2)).exec
    { index := fun hx => ?_, load := fun r hr s b => ?_ } h)
  · rw [hi] at hx; cases hx
  · have hx := (loads_iff hr).1
    cases r
    case xr1 | xr2 => simp [hi] at hx
    all_goals exact ⟨rfl, rfl⟩

/-- Settles O27: of the register updates only `setArr` and the load of the ARR reach it. -/
theorem arrOnlyBy : Obligations.ArrOnlyBy := by
  intro i s t h hi
  refine (kept_field State.arr).exec { arr := fun ha => ?_, load := fun r hr _ b => ?_ } h
  · rw [hi] at ha; cases ha
  · have ha := (loads_iff hr).2.1 s.psr
    cases r
    case arr => simp [hi] at ha
    all_goals exact ⟨rfl, rfl⟩

/-- Settles O28: without the PSR selected nothing writes LSR 15 but `SVC`, which loads its high byte. -/
theorem lcrrOnlyBy : Obligations.LcrrOnlyBy := by
  intro i s t h hi
  by_cases hsvc : ∃ q r, i.form = .cmd .svc q r
  · obtain ⟨q, r, hf⟩ := hsvc
    obtain rfl : i = .svc q r := eq_instr_of_form hf
    obtain rfl := Host.Outcome.next.inj h
    exact ⟨rfl, .inr ⟨q, r, rfl, rfl⟩⟩
  · have same : (t.psrLsr, t.lcrr) = (s.psrLsr, s.lcrr) := by
      refine (kept_field fun s => (s.psrLsr, s.lcrr)).exec
        { load := fun r hr s b => ?_, free := fun hp => ?_, svc := fun q r hf => absurd ⟨q, r, hf⟩ hsvc } h
      · have hp := (loads_iff hr).2.2
        cases r
        case psr => simp [hi] at hp
        all_goals exact ⟨rfl, rfl⟩
      · rw [hi] at hp; cases hp
    obtain ⟨hl, hc⟩ := Prod.mk.inj same
    exact ⟨hl, .inl hc⟩

/-- Settles O29: the listed forms make no update that reaches the PSR. -/
theorem psrUnchangedByListed : Obligations.PsrUnchangedByListed := by
  intro i s t h hi
  have hs := selectsPsr_of_leavesPsr hi
  refine (kept_field State.psr).exec
    { psr := fun hp => ?_, load := fun r hr s b => ?_, free := fun hp => ?_, edit := fun he => ?_ } h
  · rw [hi] at hp; cases hp
  · have hp := (loads_iff hr).2.2
    cases r
    case psr => simp [hs] at hp
    all_goals exact ⟨rfl, rfl⟩
  · rw [hs] at hp; cases hp
  · generalize i.form = f at hi he
    unfold Form.isEdit at he
    split at he <;> simp_all [Form.leavesPsr]

/-! ## What an instruction stays within -/

/-- An instruction stays within the checks of its accesses, but for an `LPMR` in privileged mode, which loads the
PMR (R80, R263). -/
theorem exec_within (h : exec i s = .next t) :
    Within s t ∨ ∃ q r, i = .lpmr q r ∧ s.nonprivileged = false ∧ t = (s.enter q).setPmr r := by
  by_cases hl : ∃ q r, i.form = .cmd .lpmr q r ∧ s.nonprivileged = false
  · obtain ⟨q, r, hf, hp⟩ := hl
    obtain rfl : i = .lpmr q r := eq_instr_of_form hf
    refine .inr ⟨q, r, rfl, hp, ?_⟩
    obtain rfl := Host.Outcome.next.inj h
    rw [if_neg (by simp [hp])]
  · refine .inl (kept_within.exec ?_ h)
    exact {
      iar := fun s _ => .of_same (.refl s) rfl rfl
      stop := within_stop
      psr := fun _ s _ => .of_same (.refl s) rfl rfl
      arr := fun _ s _ => .of_same (.refl s) rfl rfl
      index := fun _ s _ _ => .of_same (by simp [SameControl]) (by simp) (by simp)
      load := fun r _ s _ => ⟨.of_same (by simp [SameControl]) (by simp) (by simp),
        .of_same (by simp [SameControl]) (by simp) (by simp)⟩
      free := fun _ s => ⟨.of_same (.refl s) rfl rfl, .of_same (.refl s) rfl rfl, .of_same (.refl s) rfl rfl⟩
      edit := fun _ s => .of_same (.refl s) rfl rfl
      pmr := fun q r hf hp => absurd ⟨q, r, hf, hp⟩ hl
      svc := fun _ _ _ s => .of_same (.refl s) rfl rfl }

/-- PMR bit 7 off is privileged mode (R40). -/
theorem nonprivileged_iff : s.nonprivileged = true ↔ s.pmr &&& 0x01 = 1 := by
  rw [State.nonprivileged, ibmBit_seven, decide_eq_true_eq]

/-- Settles O25: an instruction stays within the control side, and `LPMR` alone goes beyond the PMR. -/
theorem controlSideUntouched : Obligations.ControlSideUntouched := by
  intro i s t h
  obtain hw | ⟨q, r, rfl, hp, rfl⟩ := exec_within h
  · exact ⟨hw.control, .inl hw.pmr⟩
  · exact ⟨SameControl.refl s, .inr ⟨(ibmBit_seven_eq_false s.pmr).mp hp, q, r, rfl, rfl⟩⟩

end Sys2Proof.Machine
end

section
/-! PROOF. What fetch and a whole turn of the MSP keep, and that a nonprivileged task changes neither
the PMR nor the first 8K (spec/10_state.md R40, spec/20_memory.md R85). -/

namespace Sys2Proof.Machine

variable {R : State → State → Prop} {s t : State}

/-! ## Fetch -/

/-- `R` holds over the register updates of instruction fetch, its stop at an undefined op code included (R131). -/
structure FetchUpdates (R : State → State → Prop) : Prop where
  iar : ∀ s a, R s (State.setIar s a) := by intros; rfl
  arr : ∀ s a, R s (State.setArr s a) := by intros; rfl
  latchOp : ∀ s op, R s (State.latchOp s op) := by intros; rfl
  undefined : ∀ s op, R s (State.stopUndefined s op) := by intros; rfl

section Fetch

variable (K : Kept R)
include K

theorem Kept.setLsr8 (s : State) (a : Word) : R s (s.setLsr8 a) := K.pointers s a s.lsr9

theorem Kept.setLsr9 (s : State) (a : Word) : R s (s.setLsr9 a) := K.pointers s s.lsr8 a

theorem Kept.latchQ (s : State) (q : Byte) : R s (s.latchQ q) :=
  K.sequencing s s.lsr8 s.lsr9 s.msar q q q s.firstCycle s.complement s.recomplement s.carry s.compareHit

variable (U : FetchUpdates R)
include U

theorem Kept.fetchByte (s : State) : R s s.fetchByte.state := K.bind (K.readAt _ _ _) fun _ _ => U.iar _ _

theorem Kept.fetchOperand1 (m : Mode) (s : State) : R s (s.fetchOperand1 m).state := by
  refine K.bind (K.fetchByte U s) fun b t => ?_
  cases m with
  | direct => exact K.bind (K.trans (K.setLsr8 t _) (K.fetchByte U _)) fun _ _ => K.setLsr8 _ _
  | xr1 => exact K.setLsr8 _ _
  | xr2 => exact K.setLsr8 _ _

theorem Kept.fetchOperand2 (m : Mode) (s : State) : R s (s.fetchOperand2 m).state := by
  refine K.bind (K.fetchByte U s) fun b t => ?_
  cases m with
  | direct => exact K.bind (K.trans (K.setLsr9 t _) (K.fetchByte U _)) fun _ _ => K.setLsr9 _ _
  | xr1 => exact K.setLsr9 _ _
  | xr2 => exact K.setLsr9 _ _

theorem Kept.fetchThroughArr (s : State) : R s s.fetchThroughArr.state :=
  K.bind (K.trans (U.arr _ _) (K.fetchByte U _)) fun _ _ => U.arr _ _

theorem Kept.fetchBranch (m : Mode) (q : Byte) (s : State) : R s (s.fetchBranch m q).state := by
  cases m with
  | direct =>
    unfold State.fetchBranch
    simp only []
    split
    · exact K.bind (K.fetchByte U s) fun _ t =>
        K.bind (K.trans (K.setLsr8 t _) (K.fetchThroughArr U _)) fun _ _ => K.setLsr8 _ _
    · exact K.bind (K.fetchByte U s) fun _ t => K.trans (K.setLsr8 t _) (U.iar _ _)
  | xr1 => exact K.fetchOperand1 U .xr1 s
  | xr2 => exact K.fetchOperand1 U .xr2 s

theorem Kept.fetchRest (h : Header) (q : Byte) (s : State) : R s (s.fetchRest h q).state := by
  cases h with
  | two op m1 m2 => exact K.bind (K.fetchOperand1 U m1 s) fun _ _ => K.bind (K.fetchOperand2 U m2 _) fun _ _ => K.refl _
  | one op m => exact K.fetchOperand1 U m s
  | addr op m =>
    cases op with
    | bc => exact K.fetchBranch U m q s
    | la => exact K.fetchOperand1 U m s
  | cmd op => exact K.bind (K.fetchByte U s) fun _ _ => K.refl _

/-- What accesses, the sequencing and the register updates of fetch keep, fetch keeps, completed or stopped. -/
theorem Kept.fetchInstr (s : State) : R s s.fetchInstr.state := by
  refine K.bind (K.fetchByte U s) fun op t => K.bind (K.trans (U.latchOp t op) (K.fetchByte U _)) fun q u => ?_
  simp only []
  split
  · exact K.trans (K.latchQ u q) (U.undefined _ op)
  · refine K.bind (K.trans (K.latchQ u q) (K.fetchRest U _ _ _)) fun bytes v => ?_
    split
    · exact K.refl v
    · exact U.undefined v op

end Fetch

/-! ## A whole turn of the MSP -/

/-- A turn of the MSP is a fetch that stops, or a fetch and the instruction fetched; then the end of the
instruction (R131, R335). -/
theorem runInstruction_next (h : runInstruction s = .next t) :
    ∃ u, t = u.endInstruction ∧
      (s.clearCompare.fetchInstr = .stop u ∨ ∃ i v, s.clearCompare.fetchInstr = .ok i v ∧ exec i v = .next u) := by
  unfold runInstruction at h
  cases hf : s.clearCompare.fetchInstr with
  | stop u => rw [hf] at h; exact ⟨u, (Host.Outcome.next.inj h).symm, .inl rfl⟩
  | ok i v =>
    rw [hf] at h
    cases he : exec i v with
    | next u => simp only [he, finish] at h; exact ⟨u, (Host.Outcome.next.inj h).symm, .inr ⟨i, v, rfl, he⟩⟩
    | fault r => simp only [he, finish] at h; cases h
    | refused r => simp only [he, finish] at h; cases h

/-- What the end of an instruction keeps. -/
theorem endInstruction_keeps {P : State → Prop} (h : P s) (scratch : ∀ s, P s → P (State.freeScratch s))
    (stop : ∀ s e, P s → P (State.stop s e)) (clock : ∀ s : State, P s → P { s with clockRun := false }) :
    P s.endInstruction := by
  unfold State.endInstruction
  simp only []
  split
  · exact scratch s h
  · split
    · exact stop _ _ (scratch s h)
    · split
      · exact clock _ (scratch s h)
      · exact scratch s h

/-- The MSP's turn, or an entry that only says when it comes, in a state where no action of the control processor
is taken (R297; log 7). -/
theorem step_of_turn (hh : s.host = [] ∨ ∃ rest, s.host = .awaitStop :: rest) (h : step s = .next t) :
    runInstruction s = .next t ∨ ∃ rest, t = { s with host := rest } := by
  unfold step stepSystem at h
  obtain hh | ⟨rest, hh⟩ := hh <;> rw [hh] at h <;> simp only [] at h <;> split at h
  · exact .inl h
  · cases h
  · exact .inl h
  · exact .inr ⟨rest, (Host.Outcome.next.inj h).symm⟩

/-- Fetch stays within the checks of its accesses. -/
theorem fetchInstr_within (s : State) : Within s s.fetchInstr.state :=
  kept_within.fetchInstr
    { iar := fun s _ => .of_same (.refl s) rfl rfl
      arr := fun s _ => .of_same (.refl s) rfl rfl
      latchOp := fun s _ => .of_same (.refl s) rfl rfl
      undefined := fun s _ => .of_same (.refl s) rfl rfl } s

theorem endInstruction_within (s : State) : Within s s.endInstruction :=
  endInstruction_keeps (P := Within s) (.refl s) (fun _ h => h.trans (.of_same (.refl _) rfl rfl))
    (fun _ e h => h.trans (within_stop _ e)) fun _ h => h.trans (.of_same (.refl _) rfl rfl)

/-- A turn of the MSP in nonprivileged mode stays within the checks of its accesses, whatever it fetches. -/
theorem runInstruction_within (hn : s.nonprivileged = true) (h : runInstruction s = .next t) : Within s t := by
  obtain ⟨u, rfl, hs⟩ := runInstruction_next h
  have hc : Within s s.clearCompare := .of_same (.refl s) rfl rfl
  have hf := hc.trans (fetchInstr_within s.clearCompare)
  refine Within.trans ?_ (endInstruction_within u)
  obtain hs | ⟨i, v, hs, he⟩ := hs <;> rw [hs] at hf
  · exact hf
  · obtain hw | ⟨q, r, -, hp, -⟩ := exec_within he
    · exact hf.trans hw
    · have : v.nonprivileged = s.nonprivileged := by unfold State.nonprivileged; rw [show v.pmr = s.pmr from hf.pmr]
      rw [this, hn] at hp
      cases hp

/-- Settles O24: a byte of the first 8K that changes would be one a nonprivileged write is allowed to. -/
theorem nonprivilegedKeepsPmrAndFirst8K : Obligations.NonprivilegedKeepsPmrAndFirst8K := by
  intro s t hi hp hh h
  have hn := nonprivileged_iff.mpr hp
  obtain hr | ⟨rest, rfl⟩ := step_of_turn hh h
  · have hw := runInstruction_within hn hr
    refine ⟨hw.pmr, fun ra hra => by_contra fun hne => ?_⟩
    obtain ⟨la, hla⟩ := hw.storage hi.1 ra hne
    exact (writeCheck_ok hla).2 ⟨hn, decide_eq_true hra⟩
  · exact ⟨rfl, fun _ _ => rfl⟩

end Sys2Proof.Machine
end

section
/-! PROOF. What an instruction can leave in the PSR: the setting table of spec/10_state.md R28 as an
inversion lemma over all forms, `exec_psr`. -/

namespace Sys2Proof

open Machine

/-- The PSR settings by form: what the form can leave in the PSR where it has found `p`, once it sets it
(R28, R158, R161, R162, R165, R166, R194, R205, R230, R231, R234, R236). -/
def Form.sets (f : Form) (p p' : Byte) : Prop :=
  match f with
  | .two .zaz _ _ _ => ∃ nz low, p' = setResult p nz low
  | .two .az _ _ _ | .two .sz _ _ _ =>
    ∃ p1, (p1 = p ∨ p1 = setFlag p psrDO true) ∧ (p' = p1 ∨ ∃ nz low, p' = setResult p1 nz low)
  | .two .alc _ _ _ => ∃ nz c, p' = setSum p nz c
  | .two .slc _ _ _ => ∃ nz c, (c = true → nz = true) ∧ p' = setCondition p (nz && !c) c (!nz)
  | .two .clc _ _ _ => ∃ x y, p' = setCompare p x y
  | .two .ed _ _ _ => ∃ h l e, p' = setCondition p h l e
  | .one .cli q _ => ∃ x, p' = setCompare p x q
  | .one .tbn _ _ | .one .tbf _ _ => p' = setFlag p psrTF true
  | .one .l q _ => q = 0x04 ∧ ∃ b, p' = loadedPsr b
  | .one .a q _ => if q = 0x04 then ∃ b, p' = b &&& 0x3F else ∃ nz c, p' = setSum p nz c
  | .addr .bc q _ | .cmd .jc q _ => p' = resetTested q p
  | _ => False

end Sys2Proof

namespace Sys2Proof.Machine

variable {α β : Type} {s t : State} {i : Instr} {q : Byte} {o o1 o2 : Operand} {p : Byte} {Q : Byte → Prop}

/-- The PSR is still `p`, or one of the values of `Q` has been set. -/
def PsrOr (p : Byte) (Q : Byte → Prop) (s : State) : Prop := s.psr = p ∨ Q s.psr

/-- A sequence whose first part keeps the PSR. -/
theorem PsrOr.bind {r : Res α} {f : α → State → Res β} (h : r.state.psr = p)
    (hf : ∀ a t, r = .ok a t → t.psr = p → PsrOr p Q (f a t).state) : PsrOr p Q (r.bind f).state := by
  cases r with
  | ok a t => exact hf a t rfl h
  | stop t => exact .inl h

/-- A completed sequence is two completed operations. -/
theorem Res.bind_eq_ok {r : Res α} {f : α → State → Res β} {b : β} :
    r.bind f = .ok b t ↔ ∃ a u, r = .ok a u ∧ f a u = .ok b t := by
  cases r with
  | ok a u => simp
  | stop u => simp

/-- What each completed cycle keeps of the loop's value, a completed loop keeps. -/
theorem loop_value {I : α → Prop} {body : Nat → α → State → Res α}
    (h : ∀ {i a s a' t}, body i a s = .ok a' t → I a → I a') {n i : Nat} {a a' : α}
    (hl : loop body n i a s = .ok a' t) (ha : I a) : I a' := by
  induction n generalizing i a s with
  | zero => cases hl; exact ha
  | succ n ih =>
    obtain ⟨a1, s1, hb, hl⟩ := Res.bind_eq_ok.mp hl
    exact ih hl (h hb ha)

/-- Accesses and the sequencing keep the PSR. -/
theorem kept_psr : Kept fun s t => t.psr = s.psr := kept_field State.psr

theorem setCondition_setCondition (p : Byte) (a b c h l e : Bool) :
    setCondition (setCondition p a b c) h l e = setCondition p h l e := by
  revert p a b c h l e
  decide +kernel

/-! ## Two-address instructions -/

theorem zazRun_psr (q : Byte) (s : State) :
    PsrOr s.psr (fun p => ∃ nz low, p = setResult s.psr nz low) (zazRun q s).state := by
  have K := kept_psr
  refine PsrOr.bind (K.loop (K.zazCycle _) _ _ _ _) fun acc t _ ht => PsrOr.bind ?_ fun _ u _ hu =>
    .inr ⟨acc.nz, acc.n2, by simp [hu]⟩
  split
  · exact K.trans ht (K.clearNegativeZero (fun _ _ => rfl) t)
  · exact ht

/-- The passes of `AZ` and `SZ` after the first set High, Low and Equal on top of Decimal overflow (R155). -/
theorem settleAdd_psr (l1 : Nat) (acc : AddAcc) (s : State) :
    ∃ p1, (p1 = s.psr ∨ p1 = setFlag s.psr psrDO true) ∧
      PsrOr p1 (fun p => ∃ nz low, p = setResult p1 nz low) (settleAdd l1 acc s).state := by
  have K := kept_psr
  have A : ∀ s a, (State.setArr s a).psr = s.psr := fun _ _ => rfl
  unfold settleAdd
  generalize hu : (if (!acc.comp && acc.c) = true then s.setPsr (setFlag s.psr psrDO true) else s) = u
  refine ⟨u.psr, ?_, ?_⟩
  · rw [← hu]
    split
    · exact .inr rfl
    · exact .inl rfl
  · simp only []
    split
    · exact PsrOr.bind (K.trans (K.startRecomplement u) (K.loop (K.recomplementCycle A _) _ _ _ _))
        fun r v _ hv => .inr ⟨r.nz, !acc.n1, by simp [finishAdd, hv]⟩
    · split
      · exact PsrOr.bind (K.clearNegativeZero A u) fun _ v _ hv => .inr ⟨acc.nz, false, by simp [finishAdd, hv]⟩
      · exact .inr ⟨acc.nz, acc.n1, rfl⟩

theorem zonedAddSub_psr (sub : Bool) (q : Byte) (s : State) :
    PsrOr s.psr (fun p => ∃ p1, (p1 = s.psr ∨ p1 = setFlag s.psr psrDO true) ∧
      (p = p1 ∨ ∃ nz low, p = setResult p1 nz low)) (zonedAddSub sub q s).state :=
  PsrOr.bind (kept_psr.loop (kept_psr.addCycle sub _) _ _ _ _) fun acc t _ ht =>
    .inr (ht ▸ settleAdd_psr _ acc t)

theorem alcRun_psr (q : Byte) (s : State) :
    PsrOr s.psr (fun p => ∃ nz c, p = setSum s.psr nz c) (alcRun q s).state :=
  PsrOr.bind (kept_psr.loop kept_psr.alcCycle _ _ _ _) fun acc t _ ht => .inr ⟨acc.nz, acc.c, by simp [ht]⟩

/-- A borrow out of a byte cycle of `SLC` leaves a result byte that is not zero, in this cycle or before (R162). -/
theorem slcCycle_borrow {i : Nat} {acc acc' : BinAcc} (h : slcCycle i acc s = .ok acc' t)
    (ha : acc.c = true → acc.nz = true) : acc'.c = true → acc'.nz = true := by
  obtain ⟨y, u, -, h⟩ := Res.bind_eq_ok.mp h
  obtain ⟨x, v, -, h⟩ := Res.bind_eq_ok.mp h
  obtain ⟨_, w, -, h⟩ := Res.bind_eq_ok.mp h
  obtain ⟨rfl, -⟩ := Res.ok.inj h
  intro hb
  have hd : (x.toNat : Int) - y.toNat - acc.c.toNat < 0 := of_decide_eq_true hb
  by_contra hz
  simp only [Bool.or_eq_true, bne_iff_ne, ne_eq, not_or, not_not, Bool.not_eq_true] at hz
  obtain ⟨hn, hr⟩ := hz
  have hc : acc.c.toNat = 0 := by cases hc : acc.c <;> simp_all
  have hm := congrArg BitVec.toNat hr
  simp only [BitVec.toNat_ofInt, BitVec.ofNat_eq_ofNat, BitVec.toNat_ofNat, Nat.zero_mod] at hm
  have := x.isLt
  have := y.isLt
  omega

theorem slcRun_psr (q : Byte) (s : State) :
    PsrOr s.psr (fun p => ∃ nz c, (c = true → nz = true) ∧ p = setCondition s.psr (nz && !c) c (!nz))
      (slcRun q s).state :=
  PsrOr.bind (kept_psr.loop kept_psr.slcCycle _ _ _ _) fun acc t hl ht => .inr ⟨acc.nz, acc.c,
    loop_value (I := fun acc => acc.c = true → acc.nz = true) slcCycle_borrow hl nofun, by simp [ht]⟩

/-- A byte cycle of `CLC` leaves the PSR or sets it to a comparison (R231). -/
theorem clcCycle_psr (i : Nat) (a : Unit) (s : State) :
    PsrOr s.psr (fun p => ∃ x y, p = setCompare s.psr x y) (clcCycle i a s).state := by
  have K := kept_psr
  refine PsrOr.bind (K.trans (K.countQ s) (K.takeOp2 _)) fun y t _ ht =>
    PsrOr.bind (K.trans ht (K.takeOp1 t)) fun x u _ hu => ?_
  unfold PsrOr
  simp only [Res.state_ok, State.endCycle_psr, State.setPsr_psr, hu]
  split
  · exact .inl rfl
  · exact .inr ⟨x, y, rfl⟩

/-- A later comparison replaces an earlier one (R231). -/
theorem clcRun_psr (q : Byte) (s : State) :
    PsrOr s.psr (fun p => ∃ x y, p = setCompare s.psr x y) (clcRun q s).state := by
  refine loop_state (fun i a t ht => ?_) _ _ _ (.inl rfl)
  obtain hc | ⟨x, y, hc⟩ := clcCycle_psr i a t
  · unfold PsrOr
    rw [hc]
    exact ht
  · obtain ht | ⟨x', y', ht⟩ := ht <;> rw [ht] at hc
    · exact .inr ⟨x, y, hc⟩
    · exact .inr ⟨x, y, hc.trans (setCondition_setCondition _ _ _ _ _ _ _)⟩

theorem edRun_psr (q : Byte) (wasEqual : Bool) (s : State) :
    PsrOr s.psr (fun p => ∃ h l e, p = setCondition s.psr h l e) (edRun q wasEqual s).state := by
  refine PsrOr.bind (kept_psr.loop kept_psr.edCycle _ _ _ _) fun acc t _ ht => .inr ?_
  split
  · exact ⟨_, _, _, by rw [← ht]; rfl⟩
  · exact ⟨_, _, _, by rw [← ht]; rfl⟩

/-! ## Register loads -/

theorem loadLow_psr_of_ne {r : Reg} (hr : r ≠ .psr) (s : State) (b : Byte) : (s.loadLow r b).psr = s.psr := by
  cases r
  case psr => exact absurd rfl hr
  all_goals rfl

theorem loadReg_psr (s : State) : PsrOr s.psr (fun p => ∃ b, p = loadedPsr b) (loadReg .psr s).state := by
  have K := kept_psr
  refine PsrOr.bind (K.takeOp1 s) fun b t _ _ => .inr ⟨b, ?_⟩
  exact K.bind (s := t.loadLow .psr b) (K.takeOp1 _) fun _ _ => rfl

theorem loadReg_psr_of_ne {r : Reg} (hr : r ≠ .psr) (s : State) : (loadReg r s).state.psr = s.psr :=
  kept_psr.loadReg (fun s b => loadLow_psr_of_ne hr s b) (fun _ _ => State.loadHigh_psr _ _ _) s

theorem addToLsr_psr {r : Reg} (hr : r ≠ .psr) (s : State) :
    PsrOr s.psr (fun p => ∃ nz c, p = setSum s.psr nz c) (addToLsr r s).state := by
  have K := kept_psr
  refine PsrOr.bind (K.takeOp1 s) fun l t _ ht => PsrOr.bind ?_ fun h u _ hu => .inr ?_
  · exact K.trans ht (K.trans (loadLow_psr_of_ne hr t _) (K.takeOp1 _))
  · simp only [Res.state_ok, State.setPsr_psr, State.setCarry_psr, State.loadHigh_psr, hu]
    exact ⟨_, _, rfl⟩

theorem addToPsr_psr (s : State) : PsrOr s.psr (fun p => ∃ b, p = b &&& 0x3F) (addToPsr s).state := by
  have K := kept_psr
  refine PsrOr.bind (K.takeOp1 s) fun _ t _ _ => .inr ⟨Config.freeByte t.freeCount, ?_⟩
  exact K.bind (s := t.freePsr.freeCarry.endCycle) (K.takeOp1 _) fun _ _ => rfl

theorem addTo_psr_of_ne {r : Reg} (hr : r ≠ .psr) (s : State) :
    PsrOr s.psr (fun p => ∃ nz c, p = setSum s.psr nz c) (addTo r s).state := by
  cases r
  case psr => exact absurd rfl hr
  all_goals exact addToLsr_psr hr s

theorem testOp1_psr (f : Byte → Bool) (s : State) :
    PsrOr s.psr (fun p => p = setFlag s.psr psrTF true) (testOp1 f s).state := by
  refine PsrOr.bind (kept_psr.takeOp1 s) fun x t _ ht => ?_
  unfold PsrOr
  simp only [Res.state_ok, State.endCycle_psr, State.setPsr_psr, ht]
  split
  · exact .inr rfl
  · exact .inl rfl

/-! ## Every instruction -/

/-- An instruction that answers a next state has left the PSR as it was, or at a value its form sets (R28). -/
theorem exec_psr (h : exec i s = .next t) : t.psr = s.psr ∨ i.form.sets s.psr t.psr := by
  by_cases hl : i.form.leavesPsr = true
  · exact .inl (psrUnchangedByListed i s t h hl)
  rw [exec_eq_execForm] at h
  generalize i.form = f at h hl
  cases f with
  | two op q o1 o2 =>
    cases op
    case mvc | mvx | itc => exact absurd rfl hl
    all_goals obtain rfl := outcome_eq_next.mp h
    case zaz => exact zazRun_psr q (s.enterDecimal q o1 o2)
    case az => exact zonedAddSub_psr false q (s.enterDecimal q o1 o2)
    case sz => exact zonedAddSub_psr true q (s.enterDecimal q o1 o2)
    case alc => exact alcRun_psr q (s.enterTwo q o1 o2)
    case slc => exact slcRun_psr q (s.enterTwo q o1 o2)
    case clc => exact clcRun_psr q (s.enterTwo q o1 o2)
    case ed => exact edRun_psr q _ (s.enterTwo q o1 o2)
  | one op q o =>
    cases op
    case mvi | sbn | sbf | st => exact absurd rfl hl
    case l =>
      obtain rfl | ⟨r, hr, rfl⟩ := selectForm_next (op := .l) rfl h
      · exact .inl rfl
      · have hq : q = 0x04 := by simpa [Form.leavesPsr] using hl
        subst hq
        cases hr
        exact (loadReg_psr (s.enterOne 0x04 o)).imp_right fun hb => ⟨rfl, hb⟩
    case a =>
      obtain rfl | ⟨r, hr, rfl⟩ := selectForm_next (op := .a) rfl h
      · exact .inl rfl
      · by_cases hq : q = 0x04
        · subst hq
          cases hr
          exact addToPsr_psr (s.enterOne 0x04 o)
        · have hne : r ≠ .psr := fun hp => hq (by simpa [hp] using selectOf_eq_reg hr)
          simp only [Form.sets, if_neg hq]
          exact addTo_psr_of_ne hne (s.enterOne q o)
    all_goals obtain rfl := outcome_eq_next.mp h
    case cli => exact PsrOr.bind (kept_psr.takeOp1 (s.enterOne q o)) fun x t _ ht => .inr ⟨x, by simp [ht]⟩
    case tbn | tbf => exact testOp1_psr _ (s.enterOne q o)
  | addr op q o =>
    cases op
    case la => exact absurd rfl hl
    case bc =>
      simp only [execForm, addrForm, bcForm] at h
      split at h <;> obtain rfl := Host.Outcome.next.inj h <;> exact .inr rfl
  | cmd op q r =>
    cases op
    case svc | lpmr => exact absurd rfl hl
    case jc =>
      obtain rfl := Host.Outcome.next.inj h
      refine .inr ?_
      split <;> rfl

end Sys2Proof.Machine
end

section
/-! PROOF. The invariant of the machine over every step (spec/10_state.md R26, R40, R52,
spec/60_exceptions.md R281). -/

namespace Sys2Proof.Machine

variable {s t : State} {i : Instr} {f : Form} {p p' : Byte}

/-! ## PSR bits 0 and 1 -/

theorem setFlag_reserved : ∀ mask ∈ [psrBO, psrTF, psrDO, psrHI, psrLO, psrEQ], ∀ p on,
    setFlag p mask on &&& 0xC0 = p &&& 0xC0 := by
  decide +kernel

theorem setCondition_reserved (p : Byte) (h l e : Bool) : setCondition p h l e &&& 0xC0 = p &&& 0xC0 := by
  rw [setCondition, setFlag_reserved _ (by decide), setFlag_reserved _ (by decide), setFlag_reserved _ (by decide)]

theorem resetTested_reserved (q p : Byte) (h : p &&& 0xC0 = 0) : resetTested q p &&& 0xC0 = 0 := by
  rw [resetTested, BitVec.and_assoc, BitVec.and_comm _ 0xC0, ← BitVec.and_assoc, h]
  simp

theorem loadedPsr_reserved : ∀ b, loadedPsr b &&& 0xC0 = 0 := by decide +kernel

/-- No PSR setting turns bit 0 or 1 on (R26). -/
theorem sets_reserved (hs : f.sets p p') (hp : p &&& 0xC0 = 0) : p' &&& 0xC0 = 0 := by
  have cond (p : Byte) (h l e : Bool) (hp : p &&& 0xC0 = 0) : setCondition p h l e &&& 0xC0 = 0 :=
    (setCondition_reserved p h l e).trans hp
  have flag (m : Byte) (hm : m ∈ [psrBO, psrTF, psrDO, psrHI, psrLO, psrEQ]) (p : Byte) (on : Bool)
      (hp : p &&& 0xC0 = 0) : setFlag p m on &&& 0xC0 = 0 := (setFlag_reserved m hm p on).trans hp
  unfold Form.sets at hs
  split at hs
  case h_1 => obtain ⟨nz, low, rfl⟩ := hs; exact cond _ _ _ _ hp
  case h_2 | h_3 =>
    obtain ⟨p1, h1, h2⟩ := hs
    have hp1 : p1 &&& 0xC0 = 0 := by
      obtain rfl | rfl := h1
      · exact hp
      · exact flag _ (by decide) _ _ hp
    obtain rfl | ⟨nz, low, rfl⟩ := h2
    · exact hp1
    · exact cond _ _ _ _ hp1
  case h_4 => obtain ⟨nz, c, rfl⟩ := hs; exact flag _ (by decide) _ _ (cond _ _ _ _ hp)
  case h_5 => obtain ⟨nz, c, -, rfl⟩ := hs; exact cond _ _ _ _ hp
  case h_6 => obtain ⟨x, y, rfl⟩ := hs; exact cond _ _ _ _ hp
  case h_7 => obtain ⟨h, l, e, rfl⟩ := hs; exact cond _ _ _ _ hp
  case h_8 => obtain ⟨x, rfl⟩ := hs; exact cond _ _ _ _ hp
  case h_9 | h_10 => obtain rfl := hs; exact flag _ (by decide) _ _ hp
  case h_11 => obtain ⟨-, b, rfl⟩ := hs; exact loadedPsr_reserved b
  case h_12 =>
    split at hs
    · obtain ⟨b, rfl⟩ := hs
      rw [BitVec.and_assoc]
      exact BitVec.and_zero
    · obtain ⟨nz, c, rfl⟩ := hs
      exact flag _ (by decide) _ _ (cond _ _ _ _ hp)
  case h_13 | h_14 => obtain rfl := hs; exact resetTested_reserved _ _ hp
  case h_15 => exact hs.elim

/-! ## The stopped clock -/

/-- Where a stopped machine's clock stands still in `s`, it does in `t` (R281). -/
def ClockKept (s t : State) : Prop :=
  (s.stopped.isSome = true → s.clockRun = false) → t.stopped.isSome = true → t.clockRun = false

/-- What leaves the event and the clock run latch alone keeps a stopped clock stopped. -/
theorem ClockKept.of_same (he : t.stopped = s.stopped) (hc : t.clockRun = s.clockRun) : ClockKept s t :=
  fun h => he ▸ hc ▸ h

theorem clockKept_stop (s : State) (e : StopEvent) : ClockKept s (s.stop e) := fun _ _ => rfl

theorem kept_clock : Kept ClockKept where
  refl _ := id
  trans h h' := h' ∘ h
  readAt s k la := by
    rcases readAt_cases s k la with ⟨_, e⟩ | ⟨e, _, h⟩
    · rw [e]; exact .of_same rfl rfl
    · rw [h]; exact fun _ _ => rfl
  writeAt s la b := by
    rcases writeAt_cases s .op1 la b with ⟨_, e⟩ | ⟨e, _, h⟩
    · rw [e]; exact .of_same rfl rfl
    · rw [h]; exact fun _ _ => rfl
  sequencing _ _ _ _ _ _ _ _ _ _ _ _ := .of_same rfl rfl

/-- An instruction that stops the MSP stops its clock (R281). -/
theorem exec_clock (h : exec i s = .next t) : ClockKept s t :=
  kept_clock.exec
    { iar := fun _ _ => .of_same rfl rfl
      stop := clockKept_stop
      psr := fun _ _ _ => .of_same rfl rfl
      arr := fun _ _ _ => .of_same rfl rfl
      index := fun _ _ _ _ => .of_same (by simp) (by simp)
      load := fun _ _ _ _ => ⟨.of_same (by simp) (by simp), .of_same (by simp) (by simp)⟩
      free := fun _ _ => ⟨.of_same rfl rfl, .of_same rfl rfl, .of_same rfl rfl⟩
      edit := fun _ _ => .of_same rfl rfl
      pmr := fun _ _ _ _ _ => .of_same rfl rfl
      svc := fun _ _ _ _ => .of_same rfl rfl } h

theorem fetchInstr_clock (s : State) : ClockKept s s.fetchInstr.state :=
  kept_clock.fetchInstr
    { iar := fun _ _ => .of_same rfl rfl
      arr := fun _ _ => .of_same rfl rfl
      latchOp := fun _ _ => .of_same rfl rfl
      undefined := fun _ _ _ _ => rfl } s

/-- Fetch leaves the PSR alone. -/
theorem fetchInstr_psr (s : State) : s.fetchInstr.state.psr = s.psr := kept_psr.fetchInstr {} s

/-! ## The invariant over the MSP's turn -/

/-- The invariant over what stays within the checks of its accesses. -/
theorem machineInv_of_within (hi : MachineInv s) (hw : Within s t) (hp : t.psr &&& 0xC0 = 0) (hc : ClockKept s t) :
    MachineInv t := by
  obtain ⟨wf, below, -, pmr, clock⟩ := hi
  exact ⟨hw.wf wf, by rw [hw.checks.2.2]; exact hw.below below, hp, by rw [hw.pmr]; exact pmr, hc clock⟩

theorem fetchInstr_machineInv (hi : MachineInv s) : MachineInv s.fetchInstr.state :=
  machineInv_of_within hi (fetchInstr_within s) (by rw [fetchInstr_psr]; exact hi.2.2.1) (fetchInstr_clock s)

theorem setPmr_reserved : ∀ b : Byte, b &&& 0x8F &&& 0x70 = 0 := by decide +kernel

theorem exec_machineInv (hi : MachineInv s) (h : exec i s = .next t) : MachineInv t := by
  have hp : t.psr &&& 0xC0 = 0 := by
    obtain hp | hp := exec_psr h
    · rw [hp]; exact hi.2.2.1
    · exact sets_reserved hp hi.2.2.1
  obtain hw | ⟨q, r, -, -, rfl⟩ := exec_within h
  · exact machineInv_of_within hi hw hp (exec_clock h)
  · obtain ⟨wf, below, psr, -, clock⟩ := hi
    exact ⟨wf, below, psr, setPmr_reserved r, clock⟩

theorem endInstruction_machineInv (hi : MachineInv s) : MachineInv s.endInstruction :=
  endInstruction_keeps hi (fun _ h => h)
    (fun _ _ ⟨wf, below, psr, pmr, _⟩ => ⟨wf, below, psr, pmr, fun _ => rfl⟩)
    fun _ ⟨wf, below, psr, pmr, _⟩ => ⟨wf, below, psr, pmr, fun _ => rfl⟩

theorem runInstruction_machineInv (hi : MachineInv s) (h : runInstruction s = .next t) : MachineInv t := by
  obtain ⟨u, rfl, hs⟩ := runInstruction_next h
  have hf : MachineInv s.clearCompare.fetchInstr.state := fetchInstr_machineInv (s := s.clearCompare) hi
  refine endInstruction_machineInv ?_
  obtain hs | ⟨i, v, hs, he⟩ := hs <;> rw [hs] at hf
  · exact hf
  · exact exec_machineInv hf he

/-! ## The invariant over the actions of the control processor -/

/-- Loading a local storage register changes local storage registers only (R20). -/
theorem loadLsr_frame (s : State) (n : Fin 16) (v : Word) :
    s.loadLsr n v = { s with
      lsrReserved := (s.loadLsr n v).lsrReserved, lsr8 := (s.loadLsr n v).lsr8, lsr9 := (s.loadLsr n v).lsr9
      iar := (s.loadLsr n v).iar, lsr11Op := (s.loadLsr n v).lsr11Op, lsr11Q := (s.loadLsr n v).lsr11Q
      xr1 := (s.loadLsr n v).xr1, xr2 := (s.loadLsr n v).xr2, arr := (s.loadLsr n v).arr
      lcrr := (s.loadLsr n v).lcrr, psrLsr := (s.loadLsr n v).psrLsr } := by
  unfold State.loadLsr
  split
  · rfl
  · split <;> rfl

/-- An access of the control processor is made at an installed address, or is refused with a check (R88, R300). -/
theorem cpReal_ok {a : Word} {ra : RealAddr} (h : s.cpReal a = .ok ra) : s.inStorage ra = true := by
  unfold State.cpReal at h
  split_ifs at h <;> cases h <;> assumption

theorem cpWrite_machineInv (hi : MachineInv s) (a : Word) (b : Byte) : MachineInv (s.cpWrite a b) := by
  obtain ⟨wf, below, rest⟩ := hi
  unfold State.cpWrite
  split
  · rename_i ra hr
    exact ⟨Memory.wf_write wf, Memory.below_write (cell_lt (cpReal_ok hr)) below, rest⟩
  · exact ⟨wf, below, rest⟩

theorem cpRead_machineInv (hi : MachineInv s) (a : Word) : MachineInv (s.cpRead a) := by
  unfold State.cpRead
  split <;> exact hi

theorem loadStatusByte1_machineInv (hi : MachineInv s) (b : Byte) : MachineInv (s.loadStatusByte1 b) := by
  obtain ⟨wf, below, psr, pmr, -⟩ := hi
  unfold State.loadStatusByte1
  cases ibmBit b 2 <;> cases ibmBit b 1
  case false.true | true.true => exact ⟨wf, below, psr, pmr, fun h => by cases h⟩
  all_goals exact ⟨wf, below, psr, pmr, fun _ => rfl⟩

theorem perform_machineInv (hi : MachineInv s) (a : HostAction) : MachineInv (s.perform a) := by
  obtain ⟨wf, below, psr, pmr, clock⟩ := id hi
  cases a with
  | loadLsr n v => rw [State.perform, loadLsr_frame]; exact hi
  | loadPsr b => exact ⟨wf, below, by simp [State.perform, BitVec.and_assoc], pmr, clock⟩
  | loadPmr b => exact ⟨wf, below, psr, setPmr_reserved b, clock⟩
  | loadStatusByte1 b => exact loadStatusByte1_machineInv (s := s.freeMsar) hi b
  | writeStorage a b => exact cpWrite_machineInv hi a b
  | readStorage a => exact cpRead_machineInv hi a
  | systemReset => exact ⟨wf, below, by simp [State.perform, State.resetSystem], pmr, fun _ => rfl⟩
  | injectCheck k => cases k <;> exact ⟨wf, below, psr, pmr, fun _ => rfl⟩
  | _ => exact hi

/-! ## A step -/

/-- A step is a turn of the MSP or an action of the control processor, on the state that has used up at most the
first entry of the pending actions (R297; log 7). -/
theorem step_next (h : step s = .next t) :
    ∃ rest, runInstruction { s with host := rest } = .next t ∨ ∃ a, t = State.perform { s with host := rest } a := by
  unfold step stepSystem at h
  split at h
  case h_1 hh =>
    split at h
    · exact ⟨s.host, .inl h⟩
    · cases h
  case h_2 rest hh =>
    split at h
    · exact ⟨s.host, .inl h⟩
    · exact ⟨rest, .inr ⟨.awaitStop, (Host.Outcome.next.inj h).symm⟩⟩
  case h_3 rest hh =>
    split at h
    · exact ⟨rest, .inl h⟩
    · exact ⟨rest, .inr ⟨.letInstruction, (Host.Outcome.next.inj h).symm⟩⟩
  case h_4 a rest _ _ hh => exact ⟨rest, .inr ⟨a, (Host.Outcome.next.inj h).symm⟩⟩

/-- Settles O21: each turn of the MSP and each action of the control processor keeps the invariant. -/
theorem stepKeepsInvariant : Obligations.StepKeepsInvariant := by
  intro s t hi h
  obtain ⟨rest, hr | ⟨a, rfl⟩⟩ := step_next h
  · exact runInstruction_machineInv (s := { s with host := rest }) hi hr
  · exact perform_machineInv (s := { s with host := rest }) hi a

/-- Settles O20: the reset state is a literal. -/
theorem resetMeetsInvariant : Obligations.ResetMeetsInvariant := by
  unfold Obligations.ResetMeetsInvariant MachineInv
  decide

end Sys2Proof.Machine
end

section
/-! PROOF. The actions of the control processor, the card switch and `SVC` (spec/10_state.md R42-R49,
spec/20_memory.md R88, R89, spec/60_exceptions.md R297, R300). -/

namespace Sys2Proof.Machine

variable {s t : State} {q b : Byte} {a : Word} {ra : RealAddr} {rest : List HostAction}

/-! ## The card switch -/

/-- Settles O19: the switch only renames cells, one to one. -/
theorem cardSwitchIsTransparent : Obligations.CardSwitchIsTransparent := by
  intro s hw
  refine ⟨fun ra b ra' => byteAt_putByte hw ra ra' b, fun ra => ?_⟩
  simp only [State.cell, cardSwap, ibmBit_six, decide_eq_true_eq]

/-! ## Local storage registers -/

/-- What the control processor loads into a local storage register it senses there, and in no other (R20). -/
theorem lsr_loadLsr (s : State) (n m : Fin 16) (v : Word) :
    (s.loadLsr n v).lsr m = if m = n then v else s.lsr m := by
  have hn := n.isLt
  have hm := m.isLt
  by_cases hn8 : n.val < 8
  · by_cases hm8 : m.val < 8
    · simp only [State.loadLsr, State.lsr, hn8, hm8, dif_pos, Vector.getElem_set, Fin.ext_iff, eq_comm]
    · rw [if_neg (by rintro rfl; exact hm8 hn8)]
      simp [State.loadLsr, State.lsr, hn8, hm8]
  · by_cases hm8 : m.val < 8
    · rw [if_neg (by rintro rfl; exact hn8 hm8)]
      simp only [State.lsr, hm8, dif_pos]
      unfold State.loadLsr
      rw [dif_neg hn8]
      split <;> rfl
    · simp only [State.loadLsr, State.lsr, hn8, hm8, dif_neg, not_false_eq_true, Fin.ext_iff]
      interval_cases n.val <;> interval_cases m.val <;> simp [join_hi_lo]

/-! ## One action of the control processor -/

/-- An action of the control processor that is pending is performed, whatever the clock does (R297; log 7). -/
theorem step_perform {x : HostAction} (h : s.host = x :: rest) (hw : x ≠ .awaitStop := by nofun)
    (hl : x ≠ .letInstruction := by nofun) : step s = .next (State.perform { s with host := rest } x) := by
  unfold step stepSystem
  rw [h]
  cases x
  case awaitStop => exact absurd rfl hw
  case letInstruction => exact absurd rfl hl
  all_goals rfl

/-- Settles O12: the action is performed as it stands. -/
theorem systemResetSetsEqual : Obligations.SystemResetSetsEqual :=
  ⟨rfl, fun _ _ h => step_perform h⟩

/-- The load of status byte 1 as one update: the clock run latch decides whether the event is forgotten (R47,
R293). -/
theorem loadStatusByte1_eq (s : State) (b : Byte) :
    s.loadStatusByte1 b = { s with
      stepMode := ibmBit b 0
      carry := ibmBit b 7
      clockRun := ibmBit b 1
      stopped := if ibmBit b 1 then none else s.stopped
      clock := if ibmBit b 1 then ⟨.op, .a⟩ else s.clock
      controlGateCheck := !ibmBit b 2 && s.controlGateCheck
      lsrGateCheck := !ibmBit b 2 && s.lsrGateCheck
      storageGateCheck := !ibmBit b 2 && s.storageGateCheck
      addressCheck := !ibmBit b 2 && s.addressCheck } := by
  unfold State.loadStatusByte1
  cases ibmBit b 2 <;> cases ibmBit b 1 <;> rfl

/-- Settles O13: the load as one update, field by field. -/
theorem statusByte1Loads : Obligations.StatusByte1Loads := by
  intro s b rest h
  refine ⟨_, step_perform h, ?_⟩
  rw [State.perform, loadStatusByte1_eq]
  refine ⟨⟨rfl, rfl, rfl, rfl, rfl, rfl, rfl, rfl⟩, fun _ => rfl, rfl, ibmBit_zero b, ibmBit_one b,
    ibmBit_seven b, rfl, rfl, rfl, rfl, rfl, ?_⟩
  have h2 := ibmBit_two b
  split <;> rename_i hb
  · rw [decide_eq_true hb] at h2
    simp [h2]
  · rw [decide_eq_false hb] at h2
    simp [h2]

/-- Settles O14: the register loaded reads back, and its frame. -/
theorem controlProcessorLoadsRegisters : Obligations.ControlProcessorLoadsRegisters := by
  intro s rest
  refine ⟨fun n v h => ⟨_, step_perform h, ?_, fun m hm => ?_, ?_⟩,
    fun n b h => ⟨_, step_perform h, ?_, fun m hm => ?_, rfl⟩,
    fun b h => ⟨_, step_perform h⟩, fun b h => ⟨_, step_perform h⟩⟩
  · exact (lsr_loadLsr _ n n v).trans (if_pos rfl)
  · exact (lsr_loadLsr _ n m v).trans (if_neg hm)
  · have frame := loadLsr_frame (State.freeMsar { s with host := rest }) n v
    rw [State.perform, congrArg State.msar frame]
    exact frame
  · exact Vector.getElem_set_self n.isLt
  · exact Vector.getElem_set_ne n.isLt m.isLt fun e => hm (Fin.ext e.symm)

/-- Settles O50: `SVC` is one update and the stop. -/
theorem svcStops : Obligations.SvcStops := by
  intro q r s
  refine ⟨_, rfl, ⟨rfl, rfl, rfl, rfl, rfl⟩, ?_, ⟨rfl, rfl, rfl, rfl, rfl, rfl, rfl, rfl⟩, .refl s, fun _ => rfl, rfl,
    rfl, rfl, rfl, rfl, ?_⟩
  · simp [StopEvent.setsNonexecutable]
  · simp [StopEvent.sb3Bits]

/-! ## Accesses under the CMR -/

/-- The ATR protects its page from hex 40 on (R84, decision D21). -/
theorem atrProtects_iff : ∀ page, atrProtects page = decide (64 ≤ page.toNat) := by decide +kernel

/-- The real address of an unprotected page: its number times 2048, plus the address inside the page (R81). -/
theorem atrReal_toNat {page : Byte} (h : page.toNat < 64) (a : Word) :
    (atrReal page a).toNat = page.toNat * 2048 + a.toNat % 2048 := by
  have hlow : a.toNat % 2 ^ 11 < 2 ^ 11 := Nat.mod_lt _ (by decide)
  have hpage : page.toNat % 2 ^ 6 = page.toNat := Nat.mod_eq_of_lt h
  simp only [atrReal, BitVec.toNat_append, BitVec.extractLsb'_toNat, Nat.shiftRight_zero, hpage]
  rw [← Nat.shiftLeft_add_eq_or_of_lt hlow, Nat.shiftLeft_eq]
  rfl

theorem atrIndex_val (a : Word) : (atrIndex a).val = a.toNat / 2048 := by
  have hi : (atrIndex a).val = (a.extractLsb' 11 5).toNat := rfl
  have := a.isLt
  rw [hi, BitVec.extractLsb'_toNat, Nat.shiftRight_eq_div_pow]
  omega

theorem cpAtr_eq (s : State) (a : Word) (n : Fin 64)
    (hn : n.val = a.toNat / 2048 + (if s.cmr &&& 0x02 = 0x02 then 32 else 0)) : s.cpAtr a = s.atr.get n := by
  have hi := atrIndex_val a
  unfold State.cpAtr State.taskAtr
  rw [ibmBit_six]
  split at hn <;> rename_i hb
  · rw [decide_eq_true hb, if_pos rfl]
    congr 1
    exact Fin.ext (by simp; omega)
  · rw [decide_eq_false hb, if_neg Bool.false_ne_true]
    congr 1
    exact Fin.ext (by simp; omega)

/-- Untranslated, the control processor reaches the real address itself (R42, R88). -/
theorem cpReal_untranslated (h : s.cmr &&& 0x01 = 0) (a : Word) :
    s.cpReal a = if a.toNat < s.cfg.size.bytes then .ok (a.setWidth 17) else .error 0x02 := by
  unfold State.cpReal
  have hr : (a.setWidth 17).toNat = a.toNat := BitVec.toNat_setWidth_of_le (by decide)
  rw [ibmBit_seven, h]
  simp [State.inStorage, hr]

/-- Translated, it reaches the page its task or I/O register names (R42, R88, decision D21). -/
theorem cpReal_translated (h : s.cmr &&& 0x01 = 1) (n : Fin 64)
    (hn : n.val = a.toNat / 2048 + (if s.cmr &&& 0x02 = 0x02 then 32 else 0)) :
    s.cpReal a =
      if 64 ≤ (s.atr.get n).toNat then .error 0x01
      else if (s.atr.get n).toNat * 2048 + a.toNat % 2048 < s.cfg.size.bytes then
        .ok (BitVec.ofNat 17 ((s.atr.get n).toNat * 2048 + a.toNat % 2048))
      else .error 0x02 := by
  unfold State.cpReal
  rw [ibmBit_seven, h, cpAtr_eq s a n hn, atrProtects_iff]
  by_cases hp : 64 ≤ (s.atr.get n).toNat
  · simp [hp]
  · have hr := atrReal_toNat (Nat.lt_of_not_le hp) a
    simp only [hp, State.inStorage, hr]
    rw [← hr, BitVec.ofNat_toNat, BitVec.setWidth_eq]
    simp

/-- A check of a control-processor access is an address outside storage or a protected page (R300). -/
theorem cpReal_error {e : Byte} (h : s.cpReal a = .error e) : e = 0x01 ∨ e = 0x02 := by
  unfold State.cpReal at h
  split_ifs at h <;> cases h <;> simp

/-- The check an access shows is in bits 6 and 7 of the processor error byte alone (R300; log 30). -/
theorem cpRead_processorError_high (s : State) (a : Word) :
    (s.cpRead a).processorError &&& 0xFC = s.processorError &&& 0xFC := by
  have high : ∀ p : Byte, ((p &&& 0xFC) ||| 0x01) &&& 0xFC = p &&& 0xFC ∧
      ((p &&& 0xFC) ||| 0x02) &&& 0xFC = p &&& 0xFC := by decide +kernel
  unfold State.cpRead
  split
  · rfl
  · rename_i e he
    obtain rfl | rfl := cpReal_error he
    · exact (high s.processorError).1
    · exact (high s.processorError).2

/-- A read by the control processor leaves its address and its check (R37, R88, R300). -/
theorem cpRead_frame (s : State) (a : Word) :
    s.cpRead a = { s with msar := a, processorError := (s.cpRead a).processorError } := by
  unfold State.cpRead
  split <;> rfl

/-- A read by the control processor that is made shows no check (R88). -/
theorem cpRead_ok (h : s.cpReal a = .ok ra) : (s.cpRead a).processorError = s.processorError := by
  simp only [State.cpRead, h, State.setMsar_processorError]

/-- A read by the control processor that fails shows its check (R88, R300). -/
theorem cpRead_error {e : Byte} (h : s.cpReal a = .error e) :
    (s.cpRead a).processorError = (s.processorError &&& 0xFC) ||| e := by
  simp only [State.cpRead, h, State.cpCheck_processorError, State.setMsar_processorError]

/-- A store by the control processor that is made (R88). -/
theorem cpWrite_ok (hw : Memory.wf s.mem = true) (h : s.cpReal a = .ok ra) (b : Byte) :
    StorageWith s (s.cpWrite a b) ra b ∧ (s.cpWrite a b).processorError = s.processorError := by
  simp only [State.cpWrite, h]
  exact ⟨fun ra' => byteAt_putByte (s := s.setMsar a) hw ra ra' b, rfl⟩

/-- A store by the control processor that fails its check (R88, R300). -/
theorem cpWrite_error {e : Byte} (h : s.cpReal a = .error e) (b : Byte) :
    SameStorage s (s.cpWrite a b) ∧ (s.cpWrite a b).processorError = (s.processorError &&& 0xFC) ||| e := by
  simp only [State.cpWrite, h]
  exact ⟨fun _ => rfl, rfl⟩

theorem cpWrite_frame (s : State) (a : Word) (b : Byte) :
    s.cpWrite a b = { s with
      mem := (s.cpWrite a b).mem, msar := a, processorError := (s.cpWrite a b).processorError } := by
  unfold State.cpWrite
  split <;> rfl

/-- Settles O15: the case split of `cpReal`, made or failed. -/
theorem controlProcessorStoresUnderCmr : Obligations.ControlProcessorStoresUnderCmr := by
  intro s a b rest h hw
  have made (ra : RealAddr) (hr : s.cpReal a = .ok ra) := cpWrite_ok (s := { s with host := rest }) hw hr b
  have failed (e : Byte) (hr : s.cpReal a = .error e) := cpWrite_error (s := { s with host := rest }) hr b
  refine ⟨_, step_perform h, cpWrite_frame { s with host := rest } a b, fun hc => ?_, fun hc n hn => ?_⟩
  · have hr := cpReal_untranslated hc a
    split <;> rename_i hs
    · exact made _ (hr.trans (if_pos hs))
    · exact failed _ (hr.trans (if_neg hs))
  · have hr := cpReal_translated hc n hn
    simp only []
    split <;> rename_i hp
    · exact failed _ (hr.trans (if_pos hp))
    · split <;> rename_i hs
      · exact made _ (hr.trans ((if_neg hp).trans (if_pos hs)))
      · exact failed _ (hr.trans ((if_neg hp).trans (if_neg hs)))

/-! ## Checks from outside -/

/-- The bit of status byte 2 that shows a hardware check (R48, decision D26). -/
def checkMask : CheckKind → Byte
  | .controlGate => 0x40
  | .lsrGate => 0x20
  | .storageGate => 0x10
  | .address => 0x01
  | .msarParity => 0x00

/-- Status byte 2 as a function of its bits. -/
theorem statusByte2_setCheck (s : State) (k : CheckKind) :
    (s.setCheck k).statusByte2 = s.statusByte2 ||| checkMask k := by
  have bits : ∀ n c l m f r t x : Bool,
      let byte (c l m x : Bool) : Byte := BitVec.ofBool n ++ BitVec.ofBool c ++ BitVec.ofBool l ++
        BitVec.ofBool m ++ BitVec.ofBool f ++ BitVec.ofBool r ++ BitVec.ofBool t ++ BitVec.ofBool x
      byte true l m x = byte c l m x ||| 0x40 ∧ byte c true m x = byte c l m x ||| 0x20 ∧
        byte c l true x = byte c l m x ||| 0x10 ∧ byte c l m true = byte c l m x ||| 0x01 := by decide
  obtain ⟨hc, hl, hm, hx⟩ := bits s.nonexecutable s.controlGateCheck s.lsrGateCheck s.storageGateCheck s.firstCycle
    s.recomplement s.carry s.addressCheck
  cases k with
  | controlGate => exact hc
  | lsrGate => exact hl
  | storageGate => exact hm
  | address => exact hx
  | msarParity => exact BitVec.or_zero.symm

/-- What reporting a hardware check leaves alone. -/
theorem setCheck_leaves (s : State) (k : CheckKind) :
    SameVisible s (s.setCheck k) ∧ SameStorage s (s.setCheck k) ∧ (s.setCheck k).host = s.host ∧
      (s.setCheck k).sb3 = s.sb3 ∧ (s.setCheck k).nonexecutable = s.nonexecutable := by
  cases k <;> exact ⟨⟨rfl, rfl, rfl, rfl, rfl, rfl, rfl, rfl⟩, fun _ => rfl, rfl, rfl, rfl⟩

/-- A stop on a hardware check leaves status byte 2 as the check has set it (R283). -/
theorem stop_hardwareCheck_statusByte2 (s : State) (k : CheckKind) :
    (s.stop (.hardwareCheck k)).statusByte2 = s.statusByte2 := by
  simp [State.statusByte2, StopEvent.setsNonexecutable]

/-- Settles O60: each action as one update; the read by the case split of `cpReal`. -/
theorem controlProcessorLoadsControlRegisters : Obligations.ControlProcessorLoadsControlRegisters := by
  intro s rest
  refine ⟨fun b h => step_perform h, fun b h => step_perform h, fun b h => step_perform h, fun a h => step_perform h,
    fun h => ⟨_, step_perform h⟩, fun h => step_perform h, fun h => ⟨_, step_perform h⟩, fun b h => step_perform h,
    fun a h => ⟨_, step_perform h, cpRead_frame { s with host := rest } a,
      cpRead_processorError_high { s with host := rest } a, fun hc => ?_, fun hc n hn => ?_⟩,
    fun on h => step_perform h, fun k h => ⟨_, step_perform h, ?_⟩⟩
  · have hr := cpReal_untranslated (s := { s with host := rest }) hc a
    split <;> rename_i hs
    · exact cpRead_ok (hr.trans (if_pos hs))
    · exact cpRead_error (hr.trans (if_neg hs))
  · have hr := cpReal_translated (s := { s with host := rest }) hc n hn
    simp only []
    split <;> rename_i hp
    · exact cpRead_error (hr.trans (if_pos hp))
    · split <;> rename_i hs
      · exact cpRead_ok (hr.trans ((if_neg hp).trans (if_pos hs)))
      · exact cpRead_error (hr.trans ((if_neg hp).trans (if_neg hs)))
  · obtain ⟨visible, storage, host, sb3, nonexecutable⟩ := setCheck_leaves { s with host := rest } k
    refine ⟨⟨rfl, rfl, rfl, ?_, ?_⟩, visible, storage, host, ?_, ?_⟩
    · exact congrArg (· ||| _) sb3
    · exact congrArg (· || _) nonexecutable
    · exact (stop_hardwareCheck_statusByte2 _ k).trans ((statusByte2_setCheck _ k).trans (by cases k <;> rfl))
    · cases k <;> simp [State.perform, State.setCheck, StopEvent.sb3Bits]

end Sys2Proof.Machine
end

section
/-! PROOF. `ED` byte by byte: what it has found when it completes (spec/41_data_control.md R193, R194). -/

namespace Sys2Proof.Machine

variable {s t u v : State} {k : Kind} {la a1 a2 : Word} {b p p' : Byte} {f : Form} {i n : Nat} {acc acc' : EditAcc}
  {m : RealAddr → Byte}

/-! ## Accesses that were made -/

theorem readAt_eq_ok (h : s.readAt k la = .ok b t) :
    b = s.peek k la ∧ t = (s.setMsar la).compare la (s.target k la) := by
  obtain ⟨-, e⟩ | ⟨_, -, e⟩ := readAt_cases s k la <;> rw [e] at h <;> cases h
  exact ⟨rfl, rfl⟩

theorem writeAt_eq_ok {x : Unit} (h : s.writeAt k la b = .ok x t) :
    t = ((s.setMsar la).compare la (s.target k la)).putByte (s.target k la) b := by
  obtain ⟨-, e⟩ | ⟨_, -, e⟩ := writeAt_cases s k la b <;> rw [e] at h <;> cases h
  rfl

theorem takeOp2_leaves (h : u.takeOp2 = .ok b v) :
    b = u.peek .op2 u.lsr9 ∧ SameChecks u v ∧ v.mem = u.mem ∧ (∀ ra, v.byteAt ra = u.byteAt ra) ∧ v.lsr8 = u.lsr8 ∧
      v.lsr9 = u.lsr9 - 1 := by
  obtain ⟨c, w, hr, hw⟩ := Res.bind_eq_ok.mp h
  obtain ⟨rfl, rfl⟩ := readAt_eq_ok hr
  obtain ⟨rfl, rfl⟩ := Res.ok.inj hw
  exact ⟨rfl, ⟨rfl, rfl, rfl⟩, rfl, fun _ => rfl, rfl, rfl⟩

theorem readOp1_leaves (h : u.readOp1 = .ok b v) :
    b = u.peek .op1 u.lsr8 ∧ SameChecks u v ∧ v.mem = u.mem ∧ (∀ ra, v.byteAt ra = u.byteAt ra) ∧ v.lsr8 = u.lsr8 ∧
      v.lsr9 = u.lsr9 := by
  obtain ⟨rfl, rfl⟩ := readAt_eq_ok h
  exact ⟨rfl, ⟨rfl, rfl, rfl⟩, rfl, fun _ => rfl, rfl, rfl⟩

theorem storeOp1_leaves {x : Unit} (hm : Memory.wf u.mem = true) (h : u.storeOp1 b = .ok x v) :
    SameChecks u v ∧ Memory.wf v.mem = true ∧
      (∀ ra, v.byteAt ra = if ra = u.target .op1 u.lsr8 then b else u.byteAt ra) ∧ v.lsr8 = u.lsr8 - 1 ∧
      v.lsr9 = u.lsr9 := by
  obtain ⟨c, w, hr, hw⟩ := Res.bind_eq_ok.mp h
  obtain rfl := writeAt_eq_ok hr
  obtain ⟨-, rfl⟩ := Res.ok.inj hw
  exact ⟨⟨rfl, rfl, rfl⟩, Memory.wf_write hm,
    fun ra => byteAt_putByte (s := (u.setMsar u.lsr8).compare u.lsr8 (u.target .op1 u.lsr8)) hm _ ra b, rfl, rfl⟩

/-! ## `ED` cycle by cycle (R193) -/

/-- `u` is inside an `ED` that started in `s`: storage reads as `m`, LSR 8 is at `a1`, and the next digit is that of
the operand 2 byte at `a2`, already read or not. -/
structure Editing (s : State) (a1 a2 : Word) (m : RealAddr → Byte) (acc : EditAcc) (u : State) : Prop where
  checks : SameChecks s u
  wf : Memory.wf u.mem = true
  storage : ∀ ra, u.byteAt ra = m ra
  lsr8 : u.lsr8 = a1
  lsr9 : u.lsr9 = if acc.need then a2 else a2 - 1
  digit : acc.need = false → acc.y = m (s.target .op2 a2)

/-- The byte that replaces hex 20 (R193). -/
theorem zoned_num : ∀ y, zoned 0xF (num y) = 0xF0 ||| (y &&& 0x0F) := by decide +kernel

theorem num_ne_zero : ∀ y, (num y != 0) = (y &&& 0x0F != 0) := by decide +kernel

theorem Editing.countQ (h : Editing s a1 a2 m acc u) : Editing s a1 a2 m acc u.countQ := by
  obtain ⟨h8, h9, -, hb, -⟩ := countQ_leaves u
  exact ⟨h.checks.trans ⟨by simp, by simp, by simp⟩, by simpa using h.wf, fun ra => (hb ra).trans (h.storage ra),
    h8.trans h.lsr8, h9.trans h.lsr9, h.digit⟩

/-- The digit is at hand once it has been read if it had to be (R193). -/
theorem Editing.takeDigit (h : Editing s a1 a2 m acc u) (ht : takeDigit i acc u = .ok acc' v) :
    Editing s a1 a2 m acc' v ∧ acc'.need = false ∧ acc'.nzd = acc.nzd ∧ acc'.first20 = acc.first20 := by
  have h9 := h.lsr9
  unfold Machine.takeDigit at ht
  split at ht <;> rename_i hn
  · rw [if_pos hn] at h9
    obtain ⟨y, w, hr, hw⟩ := Res.bind_eq_ok.mp ht
    obtain ⟨hy, hch, hmem, hb, h8, hd⟩ := takeOp2_leaves hr
    obtain ⟨rfl, rfl⟩ := Res.ok.inj hw
    rw [h9, peek_eq h.checks, h.storage] at hy
    exact ⟨⟨h.checks.trans hch, hmem ▸ h.wf, fun ra => (hb ra).trans (h.storage ra), h8.trans h.lsr8, h9 ▸ hd,
      fun _ => hy⟩, rfl, rfl, rfl⟩
  · obtain ⟨rfl, rfl⟩ := Res.ok.inj ht
    exact ⟨h, Bool.eq_false_iff.mpr hn, rfl, rfl⟩

/-- The end of a byte cycle changes nothing `Editing` speaks of. -/
theorem Editing.endCycle (h : Editing s a1 a2 m acc u) : Editing s a1 a2 m acc u.endCycle :=
  ⟨h.checks.trans ⟨rfl, rfl, rfl⟩, h.wf, h.storage, h.lsr8, h.lsr9, h.digit⟩

/-- Reading operand 1 finds the byte of `m` (R80). -/
theorem Editing.readOp1 (h : Editing s a1 a2 m acc u) (hr : u.readOp1 = .ok b v) :
    Editing s a1 a2 m acc v ∧ b = m (s.target .op1 a1) := by
  obtain ⟨hx, hch, hmem, hb, h8, h9⟩ := readOp1_leaves hr
  rw [h.lsr8, peek_eq h.checks, h.storage] at hx
  exact ⟨⟨h.checks.trans hch, hmem ▸ h.wf, fun ra => (hb ra).trans (h.storage ra), h8.trans h.lsr8, h9.trans h.lsr9,
    h.digit⟩, hx⟩

/-- Storing over hex 20 makes the next digit due (R193). -/
theorem Editing.storeOp1 {x : Unit} (h : Editing s a1 a2 m acc u) (hn : acc.need = false) (hn' : acc'.need = true)
    (hs : u.storeOp1 b = .ok x v) :
    Editing s (a1 - 1) (a2 - 1) (Function.update m (s.target .op1 a1) b) acc' v := by
  obtain ⟨hch, hwf, hb, h8, h9⟩ := storeOp1_leaves h.wf hs
  refine ⟨h.checks.trans hch, hwf, fun ra => ?_, h8.trans (by rw [h.lsr8]), ?_, by simp [hn']⟩
  · rw [hb, h.lsr8, h.checks.target, h.storage, Function.update_apply]
  · rw [h9, h.lsr9, hn, hn']
    rfl

/-- One completed byte cycle of `ED`: at hex 20 the digit is stored with zone F and the next one is due, at any
other byte nothing but LSR 8 has moved (R193). -/
theorem Editing.cycle (h : Editing s a1 a2 m acc u) (hc : edCycle i acc u = .ok acc' v) :
    if m (s.target .op1 a1) = 0x20 then
      Editing s (a1 - 1) (a2 - 1)
          (Function.update m (s.target .op1 a1) (0xF0 ||| (m (s.target .op2 a2) &&& 0x0F))) acc' v ∧
        acc'.nzd = (acc.nzd || m (s.target .op2 a2) &&& 0x0F != 0) ∧ acc'.first20 = (acc.first20 || decide (i = 0))
    else Editing s (a1 - 1) a2 m acc' v ∧ acc'.nzd = acc.nzd ∧ acc'.first20 = acc.first20 := by
  obtain ⟨acc1, w, ht, hc⟩ := Res.bind_eq_ok.mp hc
  obtain ⟨hw, hneed, hnzd, hfirst⟩ := h.countQ.takeDigit ht
  obtain ⟨x, z, hr, hc⟩ := Res.bind_eq_ok.mp hc
  obtain ⟨hz, rfl⟩ := hw.readOp1 hr
  have hy := hw.digit hneed
  split at hc <;> rename_i h20
  · rw [if_pos h20]
    obtain ⟨_, y, hs, hc⟩ := Res.bind_eq_ok.mp hc
    obtain ⟨rfl, rfl⟩ := Res.ok.inj hc
    rw [zoned_num, hy] at hs
    exact ⟨(hz.storeOp1 hneed rfl hs).endCycle, by simp only [hnzd, num_ne_zero, hy], by simp only [hfirst]⟩
  · rw [if_neg h20]
    obtain ⟨rfl, rfl⟩ := Res.ok.inj hc
    refine ⟨Editing.endCycle ⟨hz.checks.trans ⟨rfl, rfl, rfl⟩, hz.wf, hz.storage, ?_, hz.lsr9, hz.digit⟩, hnzd, hfirst⟩
    rw [State.downOp1_lsr8, hz.lsr8]

/-- What a completed `ED` has found: a digit that is not zero as `editsNonzero` says, and hex 20 in its first cycle
(R193, R194). -/
theorem Editing.loop (h : Editing s a1 a2 m acc u) (hl : Machine.loop edCycle n i acc u = .ok acc' v) :
    acc'.nzd = (acc.nzd || editsNonzero s a1 a2 n m) ∧
      (acc.first20 = true ∨ 0 < n ∧ i = 0 ∧ m (s.target .op1 a1) = 0x20 → acc'.first20 = true) := by
  induction n generalizing i acc u a1 a2 m with
  | zero =>
    obtain ⟨rfl, -⟩ := Res.ok.inj hl
    simp [editsNonzero]
  | succ n ih =>
    obtain ⟨acc1, w, hc, hl⟩ := Res.bind_eq_ok.mp hl
    have hstep := h.cycle hc
    rw [editsNonzero]
    split at hstep <;> rename_i h20 <;> obtain ⟨hw, hnzd, hfirst⟩ := hstep <;> obtain ⟨ihn, ihf⟩ := ih hw hl
    · rw [if_pos h20, ihn, hnzd, Bool.or_assoc]
      refine ⟨rfl, fun hf => ihf (.inl ?_)⟩
      rw [hfirst]
      obtain hf | ⟨-, hi, -⟩ := hf <;> simp [*]
    · rw [if_neg h20, ihn, hnzd]
      refine ⟨rfl, fun hf => ihf (.inl ?_)⟩
      obtain hf | ⟨-, -, hx⟩ := hf
      · rw [hfirst, hf]
      · exact absurd hx h20

end Sys2Proof.Machine
end

section
/-! PROOF. High, Low and Equal exclude each other (spec/10_state.md R27). -/

namespace Sys2Proof.Machine

variable {s t u : State} {q p p' : Byte} {f : Form} {o1 o2 : Operand}

/-! ## High, Low and Equal exclude each other (R27) -/

theorem oneCondition_setCondition : ∀ p h l e, (h && l || h && e || l && e) = false →
    OneCondition (setCondition p h l e) := by
  decide +kernel

theorem oneCondition_setResult (p : Byte) (nz low : Bool) : OneCondition (setResult p nz low) :=
  oneCondition_setCondition _ _ _ _ (by cases nz <;> cases low <;> rfl)

/-- An unsigned comparison has one outcome (R230, R231). -/
theorem oneCondition_setCompare (p x y : Byte) : OneCondition (setCompare p x y) := by
  refine oneCondition_setCondition _ _ _ _ ?_
  simp only [Bool.or_eq_false_iff, Bool.and_eq_false_iff, BitVec.ult, decide_eq_false_iff_not, beq_eq_false_iff_ne,
    ne_eq, ← BitVec.toNat_inj]
  omega

/-- The other indicators are not looked at (R26). -/
theorem oneCondition_setFlag : ∀ mask ∈ [psrBO, psrTF, psrDO], ∀ p on,
    OneCondition p → OneCondition (setFlag p mask on) := by
  decide +kernel

theorem oneCondition_loadedPsr : ∀ b, OneCondition (loadedPsr b) := by decide +kernel

/-- Turning indicators off keeps High, Low and Equal exclusive. -/
theorem oneCondition_and (m : Byte) (h : OneCondition p) : OneCondition (p &&& m) := by
  have on {k : Byte} (hk : flagOn (p &&& m) k = true) : flagOn p k = true := by
    simp only [flagOn, bne_iff_ne, ne_eq] at hk ⊢
    intro h0
    rw [BitVec.and_assoc, BitVec.and_comm m, ← BitVec.and_assoc, h0] at hk
    simp at hk
  obtain ⟨hl, he, le⟩ := h
  exact ⟨fun ⟨a, b⟩ => hl ⟨on a, on b⟩, fun ⟨a, b⟩ => he ⟨on a, on b⟩, fun ⟨a, b⟩ => le ⟨on a, on b⟩⟩

/-- The PSR settings keep High, Low and Equal exclusive but for those of `A` with the PSR selected and of `ED`
(R27, R166, R194). -/
theorem sets_oneCondition (hs : f.sets p p') (hp : OneCondition p) (ha : ¬∃ o, f = .one .a 0x04 o)
    (he : f.isEdit = false) : OneCondition p' := by
  unfold Form.sets at hs
  split at hs
  case h_1 => obtain ⟨nz, low, rfl⟩ := hs; exact oneCondition_setResult _ _ _
  case h_2 | h_3 =>
    obtain ⟨p1, rfl | rfl, rfl | ⟨nz, low, rfl⟩⟩ := hs
    · exact hp
    · exact oneCondition_setResult _ _ _
    · exact oneCondition_setFlag _ (by decide) _ _ hp
    · exact oneCondition_setResult _ _ _
  case h_4 => obtain ⟨nz, c, rfl⟩ := hs; exact oneCondition_setFlag _ (by decide) _ _ (oneCondition_setResult _ _ _)
  case h_5 =>
    obtain ⟨nz, c, hc, rfl⟩ := hs
    exact oneCondition_setCondition _ _ _ _ (by cases nz <;> cases c <;> simp_all)
  case h_6 => obtain ⟨x, y, rfl⟩ := hs; exact oneCondition_setCompare _ _ _
  case h_7 => cases he
  case h_8 => obtain ⟨x, rfl⟩ := hs; exact oneCondition_setCompare _ _ _
  case h_9 | h_10 => obtain rfl := hs; exact oneCondition_setFlag _ (by decide) _ _ hp
  case h_11 => obtain ⟨-, b, rfl⟩ := hs; exact oneCondition_loadedPsr b
  case h_12 q o =>
    rw [if_neg fun hq => ha ⟨o, by rw [hq]⟩] at hs
    obtain ⟨nz, c, rfl⟩ := hs
    exact oneCondition_setFlag _ (by decide) _ _ (oneCondition_setResult _ _ _)
  case h_13 | h_14 => obtain rfl := hs; exact oneCondition_and _ hp
  case h_15 => exact hs.elim

/-- An `ED` starts at its operand addresses with a digit due (R24, R193). -/
theorem editing_enterTwo (hw : Memory.wf s.mem = true) (q : Byte) (o1 o2 : Operand) :
    Editing s (s.address o1) (s.address o2) s.byteAt ⟨true, 0, false, false, false⟩ (s.enterTwo q o1 o2) :=
  ⟨⟨rfl, rfl, rfl⟩, hw, fun _ => rfl, rfl, rfl, nofun⟩

/-- Under one of R194's conditions `ED` sets High, Low and Equal from its result, when it completes. -/
theorem edForm_psr (hw : Memory.wf s.mem = true) (h : edForm q o1 o2 s = .next t)
    (hc : flagOn s.psr psrEQ = true ∨ s.peek .op1 (s.address o1) = 0x20 ∨
      editsNonzero s (s.address o1) (s.address o2) (q.toNat + 1) s.byteAt = true) :
    PsrOr s.psr (fun p => ∃ nz low, p = setResult s.psr nz low) t := by
  obtain rfl := outcome_eq_next.mp h
  refine PsrOr.bind (kept_psr.loop kept_psr.edCycle _ _ _ (s.enterTwo q o1 o2)) fun acc u hl hu => .inr ?_
  obtain ⟨hnzd, hfirst⟩ := (editing_enterTwo hw q o1 o2).loop hl
  have met : (flagOn s.psr psrEQ || acc.first20 || acc.nzd) = true := by
    obtain hc | hc | hc := hc
    · simp [hc]
    · simp [hfirst (.inr ⟨Nat.succ_pos _, rfl, hc⟩)]
    · simp [hnzd, fieldLength, hc]
  rw [if_pos met]
  exact ⟨acc.nzd, acc.n2, by simp [hu]⟩

/-- Settles O32: from the PSR setting table, and for `ED` from its byte cycles. -/
theorem oneConditionKept : Obligations.OneConditionKept := by
  intro i s t h hp ha hw hed
  by_cases he : i.form.isEdit = true
  · obtain ⟨q, o1, o2, hf⟩ : ∃ q o1 o2, i.form = .two .ed q o1 o2 := by
      generalize i.form = f at he
      unfold Form.isEdit at he
      split at he
      · exact ⟨_, _, _, rfl⟩
      · cases he
    rw [exec_eq_execForm, hf] at h
    obtain hs | ⟨nz, low, hs⟩ := edForm_psr hw h (hed q o1 o2 hf) <;> rw [hs]
    · exact hp
    · exact oneCondition_setResult _ _ _
  · obtain hs | hs := exec_psr h
    · rw [hs]; exact hp
    · exact sets_oneCondition hs hp ha (Bool.eq_false_iff.mpr he)

end Sys2Proof.Machine
end

section
/-! PROOF. A step runs the instruction its bytes decode to (spec/10_state.md R25, spec/30_encoding.md
R131). -/

namespace Sys2Proof

open Machine

variable {q : Byte} {h : Header} {f : Form} {i : Instr} {m : Mode} {bytes rest : List Byte}

/-- The number of bytes of an operand address (R115). -/
def Mode.length : Mode → Nat
  | .direct => 2
  | .xr1 => 1
  | .xr2 => 1

/-- The number of bytes after the Q-byte (R115). -/
def Header.operandLength : Header → Nat
  | .two _ m1 m2 => m1.length + m2.length
  | .one _ m => m.length
  | .addr _ m => m.length
  | .cmd _ => 1

theorem length_bytes (o : Operand) : o.bytes.length = o.mode.length := by cases o <;> rfl

theorem length_operandBytes (f : Form) : f.operandBytes.length = f.header.operandLength := by
  cases f <;> simp [Form.operandBytes, Form.header, Header.operandLength, length_bytes]

/-- Operands that decode are those of a form with this header and Q-byte, read from its bytes (R115). -/
theorem decodeOperands_eq_some (hd : decodeOperands h q bytes = some (f, rest)) :
    f.header = h ∧ f.qByte = q ∧ bytes = f.operandBytes ++ rest := by
  cases h with
  | two op m1 m2 =>
    simp only [decodeOperands] at hd
    split at hd
    · rename_i o1 mid h1
      split at hd
      · rename_i o2 last h2
        obtain ⟨rfl, rfl⟩ := bytes_of_takeOperand h1
        obtain ⟨rfl, rfl⟩ := bytes_of_takeOperand h2
        cases hd
        exact ⟨rfl, rfl, (List.append_assoc _ _ _).symm⟩
      · cases hd
    · cases hd
  | one op m | addr op m =>
    simp only [decodeOperands] at hd
    split at hd
    · rename_i o last h1
      obtain ⟨rfl, rfl⟩ := bytes_of_takeOperand h1
      cases hd
      exact ⟨rfl, rfl, rfl⟩
    · cases hd
  | cmd op =>
    cases bytes with
    | nil => cases hd
    | cons r last => cases hd; exact ⟨rfl, rfl, rfl⟩

/-- Bytes that decode are an op byte, a Q-byte and the operands of the form decoded (R110, R115). -/
theorem decode_eq_ok (hd : decode bytes = .ok i rest) :
    ∃ op h, bytes = op :: i.form.qByte :: (i.form.operandBytes ++ rest) ∧ headerOf op = some h ∧ i.form.header = h ∧
      i.form.header.opByte = op := by
  unfold decode at hd
  split at hd
  · cases hd
  · rename_i op tail
    split at hd
    · cases hd
    · rename_i h hh
      split at hd
      · cases hd
      · rename_i q tail
        split at hd
        · rename_i f last hf
          cases hd
          obtain ⟨rfl, rfl, rfl⟩ := decodeOperands_eq_some hf
          rw [form_instr]
          exact ⟨op, _, rfl, hh, rfl, opByte_of_headerOf op _ hh⟩
        · cases hd

end Sys2Proof

namespace Sys2Proof.Machine

variable {s t b u : State} {k n : Nat} {q op : Byte} {i : Instr} {h : Header}

/-! ## Instruction bytes -/

/-- Byte `k` of the instruction at the IAR. -/
def State.codeByte (s : State) (k : Nat) : Byte := s.peek .i (s.iar + BitVec.ofNat 16 k)

/-- The `n` instruction bytes from byte `k` on. -/
def State.bytesFrom (s : State) (k n : Nat) : List Byte := (List.range n).map fun j => s.codeByte (k + j)

theorem codeBytes_eq (s : State) (n : Nat) : s.codeBytes n = s.bytesFrom 0 n := by
  simp [State.codeBytes, State.bytesFrom, State.codeByte]

theorem bytesFrom_add (s : State) (k n l : Nat) : s.bytesFrom k (n + l) = s.bytesFrom k n ++ s.bytesFrom (k + n) l := by
  simp [State.bytesFrom, List.range_add, Nat.add_assoc]

/-! ## Fetch, byte by byte (R131) -/

/-- `t` is `b` with `k` bytes fetched: the IAR has passed them, and LSR 8, LSR 9, the MSAR and the compare may
differ. -/
def Fetching (b t : State) (k : Nat) : Prop :=
  ∃ l8 l9 m hit, t = { b with
    iar := b.iar + BitVec.ofNat 16 k, lsr8 := l8, lsr9 := l9, msar := m, compareHit := hit }

theorem Fetching.refl (s : State) : Fetching s s 0 := ⟨s.lsr8, s.lsr9, s.msar, s.compareHit, by simp⟩

theorem Fetching.setLsr8 (hf : Fetching b t k) (a : Word) : Fetching b (t.setLsr8 a) k := by
  obtain ⟨l8, l9, m, hit, rfl⟩ := hf
  exact ⟨a, l9, m, hit, rfl⟩

theorem Fetching.setLsr9 (hf : Fetching b t k) (a : Word) : Fetching b (t.setLsr9 a) k := by
  obtain ⟨l8, l9, m, hit, rfl⟩ := hf
  exact ⟨l8, a, m, hit, rfl⟩

theorem Fetching.latchOp (hf : Fetching b t k) (op : Byte) : Fetching (b.latchOp op) (t.latchOp op) k := by
  obtain ⟨l8, l9, m, hit, rfl⟩ := hf
  exact ⟨l8, l9, m, hit, rfl⟩

theorem Fetching.latchQ (hf : Fetching b t k) (q : Byte) : Fetching (b.latchQ q) (t.latchQ q) k := by
  obtain ⟨l8, l9, m, hit, rfl⟩ := hf
  exact ⟨l8, l9, m, hit, rfl⟩

theorem Fetching.setArr (hf : Fetching b t k) (a : Word) : Fetching (b.setArr a) (t.setArr a) k := by
  obtain ⟨l8, l9, m, hit, rfl⟩ := hf
  exact ⟨l8, l9, m, hit, rfl⟩

theorem Fetching.psr (hf : Fetching b t k) : t.psr = b.psr := by
  obtain ⟨l8, l9, m, hit, rfl⟩ := hf
  rfl

theorem Fetching.iar (hf : Fetching b t k) : t.iar = b.iar + BitVec.ofNat 16 k := by
  obtain ⟨l8, l9, m, hit, rfl⟩ := hf
  rfl

/-- The IAR passes a byte that is not read (R238 (c)). -/
theorem Fetching.skip (hf : Fetching b t k) : Fetching b (t.setIar (t.iar + 1)) (k + 1) := by
  obtain ⟨l8, l9, m, hit, rfl⟩ := hf
  unfold Fetching
  rw [← add_ofNat_succ]
  exact ⟨l8, l9, m, hit, rfl⟩

/-- The fetch of a byte that can be read (R25, R131). -/
theorem Fetching.fetchByte (hf : Fetching b t k) (hr : b.CodeReadable n) (hk : k < n) :
    ∃ u, t.fetchByte = .ok (b.codeByte k) u ∧ Fetching b u (k + 1) := by
  obtain ⟨l8, l9, m, hit, rfl⟩ := hf
  have same : SameChecks b { b with
      iar := b.iar + BitVec.ofNat 16 k, lsr8 := l8, lsr9 := l9, msar := m, compareHit := hit } := ⟨rfl, rfl, rfl⟩
  unfold State.fetchByte
  rw [readAt_ok same (hr k hk)]
  refine ⟨_, rfl, ?_⟩
  unfold Fetching
  rw [← add_ofNat_succ]
  exact ⟨l8, l9, _, _, rfl⟩

theorem Fetching.fetchOperand1 (hf : Fetching b t k) (m : Mode) (hr : b.CodeReadable n) (hk : k + m.length ≤ n) :
    ∃ u, t.fetchOperand1 m = .ok (b.bytesFrom k m.length) u ∧ Fetching b u (k + m.length) := by
  unfold State.fetchOperand1
  cases m <;> simp only [Mode.length] at hk
  case direct =>
    obtain ⟨u, hu, hf⟩ := hf.fetchByte hr (by omega)
    obtain ⟨v, hv, hf⟩ := (hf.setLsr8 (join (b.codeByte k) (lo u.lsr8))).fetchByte hr (by omega)
    simp only [hu, hv, Res.bind_ok]
    exact ⟨_, rfl, hf.setLsr8 _⟩
  case xr1 | xr2 =>
    obtain ⟨u, hu, hf⟩ := hf.fetchByte hr (by omega)
    simp only [hu, Res.bind_ok]
    exact ⟨_, rfl, hf.setLsr8 _⟩

theorem Fetching.fetchOperand2 (hf : Fetching b t k) (m : Mode) (hr : b.CodeReadable n) (hk : k + m.length ≤ n) :
    ∃ u, t.fetchOperand2 m = .ok (b.bytesFrom k m.length) u ∧ Fetching b u (k + m.length) := by
  unfold State.fetchOperand2
  cases m <;> simp only [Mode.length] at hk
  case direct =>
    obtain ⟨u, hu, hf⟩ := hf.fetchByte hr (by omega)
    obtain ⟨v, hv, hf⟩ := (hf.setLsr9 (join (b.codeByte k) (lo u.lsr9))).fetchByte hr (by omega)
    simp only [hu, hv, Res.bind_ok]
    exact ⟨_, rfl, hf.setLsr9 _⟩
  case xr1 | xr2 =>
    obtain ⟨u, hu, hf⟩ := hf.fetchByte hr (by omega)
    simp only [hu, Res.bind_ok]
    exact ⟨_, rfl, hf.setLsr9 _⟩

/-- A direct `BC` that branches reads byte 4 through the ARR, which steps past it with the IAR (R238 (b)). -/
theorem Fetching.fetchThroughArr (hf : Fetching b t k) (hr : b.CodeReadable n) (hk : k < n) :
    ∃ u, t.fetchThroughArr = .ok (b.codeByte k) u ∧
      Fetching (b.setArr (b.iar + BitVec.ofNat 16 (k + 1))) u (k + 1) := by
  obtain ⟨u, hu, hf⟩ := (hf.setArr t.iar).fetchByte (n := n) hr hk
  unfold State.fetchThroughArr
  simp only [hu, Res.bind_ok]
  exact ⟨_, rfl, hf.iar ▸ hf.setArr _⟩

/-- What fetch does to the ARR: only a direct `BC` that branches has read its byte 4 through it (R238 (b)). -/
def State.withBranchArr (s : State) (h : Header) (q : Byte) : State :=
  if h = .addr .bc .direct ∧ condMet q s.psr = true then s.setArr (s.iar + 4) else s

/-- The bytes fetch hands to the decoder: hex 00 stands for byte 4 of a direct `BC` that does not branch, which is
skipped (R238 (c); log 17). -/
def State.fetchedOperands (s : State) (h : Header) (q : Byte) : List Byte :=
  if h = .addr .bc .direct ∧ condMet q s.psr = false then [s.codeByte 2, 0x00] else s.bytesFrom 2 h.operandLength

/-- The bytes after the Q-byte are fetched where all of them can be read (R131). -/
theorem Fetching.fetchRest (hf : Fetching b t 2) (q : Byte) (hr : b.CodeReadable (2 + h.operandLength)) :
    ∃ u, t.fetchRest h q = .ok (b.fetchedOperands h q) u ∧
      Fetching (b.withBranchArr h q) u (2 + h.operandLength) := by
  unfold State.fetchedOperands State.withBranchArr
  cases h with
  | two op m1 m2 =>
    simp only [Header.operandLength] at hr
    obtain ⟨u, hu, hf⟩ := hf.fetchOperand1 m1 hr (by omega)
    obtain ⟨v, hv, hf⟩ := hf.fetchOperand2 m2 hr (by omega)
    simp only [State.fetchRest, hu, hv, Res.bind_ok, ← bytesFrom_add]
    exact ⟨_, rfl, Nat.add_assoc _ _ _ ▸ hf⟩
  | one op m => exact hf.fetchOperand1 m hr (Nat.le_refl _)
  | cmd op =>
    obtain ⟨u, hu, hf⟩ := hf.fetchByte hr (Nat.lt_succ_self 2)
    simp only [State.fetchRest, hu, Res.bind_ok]
    exact ⟨_, rfl, hf⟩
  | addr op m =>
    cases op with
    | la => exact hf.fetchOperand1 m hr (Nat.le_refl _)
    | bc =>
      cases m with
      | xr1 => exact hf.fetchOperand1 .xr1 hr (Nat.le_refl _)
      | xr2 => exact hf.fetchOperand1 .xr2 hr (Nat.le_refl _)
      | direct =>
        obtain ⟨u, hu, hfu⟩ := hf.fetchByte hr (by decide)
        cases hc : condMet q b.psr <;> simp only [State.fetchRest, State.fetchBranch, hf.psr, hc, hu, Res.bind_ok]
        · exact ⟨_, rfl, (hfu.setLsr8 _).skip⟩
        · obtain ⟨v, hv, hf⟩ := (hfu.setLsr8 (join (b.codeByte 2) (lo u.lsr8))).fetchThroughArr hr (by decide)
          simp only [hv, Res.bind_ok]
          exact ⟨_, rfl, hf.setLsr8 _⟩

/-! ## The decoded instruction -/

theorem branches_iff (q psr : Byte) : Branches q psr ↔ condMet q psr = true := by
  unfold Branches condMet
  simp only [ibmBit_zero, decide_eq_true_eq]
  split <;> simp

/-- Of the address of a direct `BC` that does not branch, execution uses the high byte only (R238 (c)). -/
theorem exec_untaken (hc : condMet q t.psr = false) (a a' : Word) (hh : hi a = hi a') :
    exec (.bcZ0 q a) t = exec (.bcZ0 q a') t := by
  simp only [exec, execBcZ0, bcForm, hc, State.passedAddress, hh]
  rfl

/-- The op byte of a direct `BC` is hex C0 (R119). -/
theorem opByte_eq_C0 : h.opByte = 0xC0 ↔ h = .addr .bc .direct := by
  refine ⟨fun hc => ?_, fun hc => by rw [hc]; rfl⟩
  have := headerOf_opByte h
  rw [hc] at this
  exact (Option.some.inj this).symm

theorem withBranchArr_eq (s : State) (h : Header) (q : Byte) :
    s.withBranchArr h q =
      { s with arr := if h.opByte = 0xC0 ∧ Branches q s.psr then s.iar + 4 else s.arr } := by
  simp only [State.withBranchArr, opByte_eq_C0, branches_iff]
  split <;> rfl

/-- All the bytes of an instruction have been fetched (R131, R238). -/
theorem fetched_of_fetching (hf : Fetching (((s.latchOp h.opByte).latchQ q).withBranchArr h q) t n) :
    Fetched s t n h.opByte q := by
  rw [withBranchArr_eq] at hf
  obtain ⟨l8, l9, m, hit, rfl⟩ := hf
  rfl

/-- The bytes that decode to `i` are its op byte, its Q-byte and its operands, as many as its op byte says. -/
theorem codeBytes_decode (hd : decode (s.codeBytes n) = .ok i []) :
    n = 2 + i.form.header.operandLength ∧ s.codeByte 0 = i.form.header.opByte ∧ s.codeByte 1 = i.form.qByte ∧
      s.bytesFrom 2 i.form.header.operandLength = i.form.operandBytes ∧
      headerOf i.form.header.opByte = some i.form.header := by
  obtain ⟨op, h, hbytes, hh, rfl, rfl⟩ := decode_eq_ok hd
  rw [List.append_nil] at hbytes
  have hn : n = 2 + i.form.header.operandLength := by
    have := congrArg List.length hbytes
    simp [State.codeBytes, length_operandBytes] at this
    omega
  rw [codeBytes_eq, hn, bytesFrom_add] at hbytes
  obtain ⟨h0, h1⟩ := List.cons.inj hbytes
  obtain ⟨h1, h2⟩ := List.cons.inj h1
  exact ⟨hn, h0, h1, h2, hh⟩

/-- Fetch answers what the bytes it hands to the decoder decode to (R131). -/
theorem fetchInstr_of_decode {rest : List Byte} (hr : s.CodeReadable (2 + h.operandLength))
    (hh : headerOf (s.codeByte 0) = some h)
    (hd : decode (s.codeByte 0 :: s.codeByte 1 :: s.fetchedOperands h (s.codeByte 1)) = .ok i rest) :
    ∃ t, s.fetchInstr = .ok i t ∧
      Fetching (((s.latchOp (s.codeByte 0)).latchQ (s.codeByte 1)).withBranchArr h (s.codeByte 1)) t
        (2 + h.operandLength) := by
  obtain ⟨u, hu, hfu⟩ := (Fetching.refl s).fetchByte hr (by omega)
  obtain ⟨v, hv, hfv⟩ := (hfu.latchOp (s.codeByte 0)).fetchByte hr (by omega)
  obtain ⟨w, hw, hfw⟩ := (hfv.latchQ (s.codeByte 1)).fetchRest (h := h) (s.codeByte 1) hr
  refine ⟨w, ?_, hfw⟩
  have hv : (u.latchOp (s.codeByte 0)).fetchByte = .ok (s.codeByte 1) v := hv
  have hw : (v.latchQ (s.codeByte 1)).fetchRest h (s.codeByte 1) =
      .ok (s.fetchedOperands h (s.codeByte 1)) w := hw
  unfold State.fetchInstr
  simp only [hu, hv, hw, hh, hd, Res.bind_ok]

/-- A direct `BC` by its header (R119). -/
theorem eq_bcZ0_of_header (hh : i.form.header = .addr .bc .direct) : ∃ a, i = .bcZ0 i.form.qByte a := by
  rw [← instr_form i, form_instr]
  generalize i.form = f at hh ⊢
  cases f with
  | addr op q o =>
    cases op <;> cases o <;>
      simp only [Form.header, Operand.mode, reduceCtorEq, Header.addr.injEq, false_and, and_false] at hh
    exact ⟨_, rfl⟩
  | two | one | cmd => cases hh

/-- Where the bytes at the IAR can be fetched and decode to `i`, fetch answers `i`, or an instruction that executes
as `i` does (R131, R238). -/
theorem fetchInstr_ok (hr : s.CodeReadable n) (hd : decode (s.codeBytes n) = .ok i []) :
    ∃ j t, s.fetchInstr = .ok j t ∧ exec j t = exec i t ∧ Fetched s t n i.form.header.opByte i.form.qByte := by
  obtain ⟨rfl, h0, h1, h2, hh⟩ := codeBytes_decode hd
  have fetched {t : State} (hf : Fetching (((s.latchOp (s.codeByte 0)).latchQ (s.codeByte 1)).withBranchArr
      i.form.header (s.codeByte 1)) t (2 + i.form.header.operandLength)) :
      Fetched s t (2 + i.form.header.operandLength) i.form.header.opByte i.form.qByte := by
    rw [h0, h1] at hf
    exact fetched_of_fetching hf
  by_cases hc : i.form.header = .addr .bc .direct ∧ condMet (s.codeByte 1) s.psr = false
  · obtain ⟨a, hi⟩ := eq_bcZ0_of_header hc.1
    have hbytes : decode (s.codeByte 0 :: s.codeByte 1 :: s.fetchedOperands i.form.header (s.codeByte 1)) =
        .ok (.bcZ0 (s.codeByte 1) (join (s.codeByte 2) 0x00)) [] := by
      rw [State.fetchedOperands, if_pos hc, h0, hc.1]
      rfl
    obtain ⟨t, ht, hf⟩ := fetchInstr_of_decode hr (h0 ▸ hh) hbytes
    have hpsr : t.psr = s.psr := by rw [hf.psr, withBranchArr_eq]; rfl
    refine ⟨_, t, ht, ?_, fetched hf⟩
    rw [h1] at hc ⊢
    rw [hi] at h2 ⊢
    refine exec_untaken (by rw [hpsr]; exact hc.2) _ _ ?_
    rw [hi_join]
    exact (List.cons.inj h2).1
  · have hbytes : s.codeBytes (2 + i.form.header.operandLength) =
        s.codeByte 0 :: s.codeByte 1 :: s.fetchedOperands i.form.header (s.codeByte 1) := by
      rw [codeBytes_eq, bytesFrom_add, State.fetchedOperands, if_neg hc]
      rfl
    obtain ⟨t, ht, hf⟩ := fetchInstr_of_decode hr (h0 ▸ hh) (hbytes ▸ hd)
    exact ⟨i, t, ht, rfl, fetched hf⟩

/-- Settles O6: fetch answers the decoded instruction or one that executes alike. -/
theorem stepRunsDecodedInstruction : Obligations.StepRunsDecodedInstruction := by
  intro s n i hrun hr hd
  have turn (u : State) (hr : u.CodeReadable n) (hd : decode (u.codeBytes n) = .ok i []) :
      ∃ t, Fetched u.clearCompare t n i.form.header.opByte i.form.qByte ∧ runInstruction u = finish (exec i t) := by
    obtain ⟨j, t, hf, he, ht⟩ := fetchInstr_ok (s := u.clearCompare) hr hd
    exact ⟨t, ht, by simp only [runInstruction, hf, he]⟩
  refine ⟨fun hh => ?_, fun rest hh => ?_⟩
  · obtain ⟨t, ht, he⟩ := turn s hr hd
    refine ⟨t, ht, ?_⟩
    obtain hh | ⟨rest, hh⟩ := hh <;> simp only [step, stepSystem, hh, hrun, if_true, he]
  · obtain ⟨t, ht, he⟩ := turn { s with host := rest } hr hd
    refine ⟨t, ht, ?_⟩
    simp only [step, stepSystem, hh]
    rw [if_pos hrun, he]

end Sys2Proof.Machine
end

section
/-! PROOF. Translation and the checks of one access (spec/20_memory.md R80-R87). -/

namespace Sys2Proof.Machine

variable {s : State} {k : Kind} {la : Word} {ra : RealAddr} {n : Fin 64}

theorem ibmBit_four : ∀ b, ibmBit b 4 = decide (b &&& 0x08 ≠ 0) := by decide +kernel
theorem ibmBit_five : ∀ b, ibmBit b 5 = decide (b &&& 0x04 ≠ 0) := by decide +kernel
theorem ibmBit_six_ne_zero : ∀ b, ibmBit b 6 = decide (b &&& 0x02 ≠ 0) := by decide +kernel

/-- An access is translated when the PMR bit of its kind is on (R40, R80). -/
theorem translates_eq (s : State) (k : Kind) : s.translates k = decide (s.pmr &&& translateMask k ≠ 0) := by
  cases k with
  | i => exact ibmBit_four s.pmr
  | op1 => exact ibmBit_six_ne_zero s.pmr
  | op2 => exact ibmBit_five s.pmr

/-- The task register of a logical address is the one its five high-order bits select (R81). -/
theorem taskAtr_eq (hn : n.val = la.toNat / 2048) : s.taskAtr la = s.atr.get n := by
  unfold State.taskAtr
  congr 1
  exact Fin.ext ((atrIndex_val la).trans hn.symm)

/-- The number of the real address of an access, where task register `n` is the one selected (R80, R81). -/
def State.formedReal (s : State) (k : Kind) (la : Word) (n : Fin 64) : Nat :=
  if s.pmr &&& translateMask k ≠ 0 then (s.atr.get n).toNat % 64 * 2048 + la.toNat % 2048 else la.toNat

/-- The page of the access is protected (R80, R84, decision D21). -/
abbrev State.PageProtected (s : State) (k : Kind) (n : Fin 64) : Prop :=
  s.pmr &&& translateMask k ≠ 0 ∧ 64 ≤ (s.atr.get n).toNat

theorem formedReal_lt (s : State) (k : Kind) (la : Word) (n : Fin 64) : s.formedReal k la n < 2 ^ 17 := by
  have := la.isLt
  unfold State.formedReal
  split <;> omega

/-- The size check looks at the number of the real address (R86). -/
theorem checkSize_ofNat {r : Nat} (hr : r < 2 ^ 17) (la : Word) :
    s.checkSize la (BitVec.ofNat 17 r) =
      if s.cfg.size.bytes ≤ r then .error (.invalidAddress la) else .ok (BitVec.ofNat 17 r) := by
  unfold State.checkSize State.inStorage
  rw [BitVec.toNat_ofNat, Nat.mod_eq_of_lt hr]
  by_cases h : s.cfg.size.bytes ≤ r
  · rw [if_pos h, if_neg (by simpa using h)]
  · rw [if_neg h, if_pos (by simpa using h)]

/-- `real(kind, la)`: a protected page first, then an address outside storage (R80, R84, R86, R87). -/
theorem realOf_eq (hn : n.val = la.toNat / 2048) :
    s.realOf k la =
      if s.PageProtected k n then .error (.protect la)
      else if s.cfg.size.bytes ≤ s.formedReal k la n then .error (.invalidAddress la)
      else .ok (BitVec.ofNat 17 (s.formedReal k la n)) := by
  rw [← checkSize_ofNat (formedReal_lt s k la n)]
  simp only [State.realOf, State.PageProtected, State.formedReal, translates_eq, taskAtr_eq hn, atrProtects_iff,
    decide_eq_true_eq]
  by_cases ht : s.pmr &&& translateMask k ≠ 0
  · simp only [if_pos ht, and_iff_right ht]
    split
    · rfl
    · rename_i hp
      have hp := Nat.lt_of_not_le hp
      rw [Nat.mod_eq_of_lt hp, ← atrReal_toNat hp la, BitVec.ofNat_toNat, BitVec.setWidth_eq]
  · simp only [if_neg ht, not_and_of_not_left _ ht, if_false]
    rw [BitVec.ofNat_toNat]

/-- The task register a logical address selects. -/
theorem exists_atrNumber (la : Word) : ∃ n : Fin 64, n.val = la.toNat / 2048 :=
  ⟨⟨la.toNat / 2048, by have := la.isLt; omega⟩, rfl⟩

/-- An access that passes translation goes to the real address formed (R80, R81). -/
theorem toNat_of_realOf (hn : n.val = la.toNat / 2048) (h : s.realOf k la = .ok ra) :
    ra.toNat = s.formedReal k la n := by
  rw [realOf_eq hn] at h
  split_ifs at h
  obtain rfl := Except.ok.inj h
  rw [BitVec.toNat_ofNat, Nat.mod_eq_of_lt (formedReal_lt s k la n)]

/-- Settles O17: the address formed, for any access and for the page of R82. -/
theorem translatedAddressFormsPage : Obligations.TranslatedAddressFormsPage := by
  refine ⟨fun s k la ra h => ?_, fun s k la ht hatr hsize hlow hhigh => ?_⟩
  · obtain ⟨n, hn⟩ := exists_atrNumber la
    have formed := toNat_of_realOf hn h
    unfold State.formedReal at formed
    split <;> rename_i ht
    · rw [if_pos ht] at formed
      exact ⟨n, hn, formed⟩
    · rwa [if_neg ht] at formed
  · have hn : (4 : Fin 64).val = la.toNat / 2048 := by
      change 4 = la.toNat / 2048
      omega
    have formed : s.formedReal k la 4 = 0x17800 + (la.toNat - 0x2000) := by
      rw [State.formedReal, if_pos ht, hatr]
      change 0x2F * 2048 + la.toNat % 2048 = _
      omega
    have unprotected : ¬s.PageProtected k 4 := by
      rw [State.PageProtected, hatr]
      exact fun hp => absurd hp.2 (by decide)
    rw [realOf_eq hn, if_neg unprotected, if_neg (by omega), formed]

/-! ## The checks on top of translation (R85, D11) -/

/-- A nonprivileged task's access reaches the first 8K (R85). -/
theorem nonprivileged_and_inFirst8K {r : Nat} (hr : r < 2 ^ 17) :
    (s.nonprivileged && inFirst8K (BitVec.ofNat 17 r)) = decide (s.pmr &&& 0x01 = 1 ∧ r < 0x2000) := by
  rw [Bool.eq_iff_iff, Bool.and_eq_true, nonprivileged_iff, inFirst8K, BitVec.toNat_ofNat, Nat.mod_eq_of_lt hr]
  simp

/-- `MemWrite` after translation: the first 8K is closed to a nonprivileged task (R85). -/
theorem writeCheck_of_realOf {r : Nat} (hr : r < 2 ^ 17) (h : s.realOf k la = .ok (BitVec.ofNat 17 r)) :
    s.writeCheck k la =
      if s.pmr &&& 0x01 = 1 ∧ r < 0x2000 then .error (.protect la) else .ok (BitVec.ofNat 17 r) := by
  simp only [State.writeCheck, h, nonprivileged_and_inFirst8K hr, decide_eq_true_eq]

/-- `MemRead` after translation: the first 8K is closed to a nonprivileged task by decision D11 only. -/
theorem readCheck_of_realOf {r : Nat} (hr : r < 2 ^ 17) (h : s.realOf k la = .ok (BitVec.ofNat 17 r)) :
    s.readCheck k la =
      if s.cfg.lowReadFaults = true ∧ s.pmr &&& 0x01 = 1 ∧ r < 0x2000 then .error (.protect la)
      else .ok (BitVec.ofNat 17 r) := by
  simp only [State.readCheck, h, Bool.and_assoc, nonprivileged_and_inFirst8K hr, Bool.and_eq_true, decide_eq_true_eq]

/-- An event of translation is that of the read and of the write (R80, R87). -/
theorem checks_of_realOf_error {e : StopEvent} (h : s.realOf k la = .error e) :
    s.readCheck k la = .error e ∧ s.writeCheck k la = .error e := by
  simp only [State.readCheck, State.writeCheck, h, and_self]

/-- A write that is refused stores nothing (R80). -/
theorem writeAt_error_mem {e : StopEvent} (h : s.writeCheck k la = .error e) (b : Byte) :
    (s.writeAt k la b).state.mem = s.mem := by
  rw [writeAt_error (SameChecks.refl s) h, Res.state_stop, State.stop_mem, State.setMsar_mem]

/-- What the two checks answer, by the number of the real address formed (R80, R84-R87; decisions D11, D21, D22). -/
theorem checks_by_formedReal (hn : n.val = la.toNat / 2048) :
    if s.PageProtected k n then
      s.readCheck k la = .error (.protect la) ∧ s.writeCheck k la = .error (.protect la)
    else if s.cfg.size.bytes ≤ s.formedReal k la n then
      s.readCheck k la = .error (.invalidAddress la) ∧ s.writeCheck k la = .error (.invalidAddress la)
    else if s.pmr &&& 0x01 = 1 ∧ s.formedReal k la n < 0x2000 then
      s.writeCheck k la = .error (.protect la) ∧
        s.readCheck k la =
          (if s.cfg.lowReadFaults then .error (.protect la) else .ok (BitVec.ofNat 17 (s.formedReal k la n)))
    else s.readCheck k la = .ok (BitVec.ofNat 17 (s.formedReal k la n)) ∧
      s.writeCheck k la = .ok (BitVec.ofNat 17 (s.formedReal k la n)) := by
  have real := realOf_eq (s := s) (k := k) hn
  have hlt := formedReal_lt s k la n
  split <;> rename_i hp
  · exact checks_of_realOf_error (real.trans (if_pos hp))
  rw [if_neg hp] at real
  split <;> rename_i hs
  · exact checks_of_realOf_error (real.trans (if_pos hs))
  rw [if_neg hs] at real
  rw [writeCheck_of_realOf hlt real, readCheck_of_realOf hlt real]
  split <;> rename_i hl
  · simp only [and_iff_left hl, and_self]
  · exact ⟨if_neg fun h => hl h.2, rfl⟩

/-- Settles O18: the checks by the real address formed; a refused write stores nothing. -/
theorem accessChecksDecideEachAccess : Obligations.AccessChecksDecideEachAccess :=
  fun _ _ _ _ b hn => ⟨checks_by_formedReal hn, fun _ he => writeAt_error_mem he b⟩

end Sys2Proof.Machine
end

section
/-! PROOF. `MVC` that faults: the bytes completed before stay stored (spec/20_memory.md R96, spec/60_exceptions.md
R281, R292). -/

namespace Sys2Proof.Machine

variable {s t u v : State} {q : Byte} {a1 a2 : Word} {i k : Nat} {e : StopEvent}

/-- A stop on a failing access, inside an instruction that has not stopped yet (R281, R283). -/
theorem Underway.stop (h : Underway s s t q) (la : Word) (e : StopEvent) :
    StoppedOn s ((t.setMsar la).stop e) e ∧ SameVisible s ((t.setMsar la).stop e) ∧
      SameControl s ((t.setMsar la).stop e) := by
  obtain ⟨-, -, -, hsb3, hnonexecutable, -⟩ := h.nostop
  exact ⟨⟨rfl, rfl, rfl, congrArg (· ||| e.sb3Bits) hsb3, congrArg (· || e.setsNonexecutable) hnonexecutable⟩,
    h.visible, h.control⟩

/-- The byte-serial copy of one more byte, at its left end (R191). -/
theorem serialCopy_succ (s : State) (a1 a2 : Word) (n : Nat) (m : RealAddr → Byte) :
    serialCopy s a1 a2 (n + 1) m =
      Function.update (serialCopy s a1 a2 n m) (s.target .op1 (a1 - BitVec.ofNat 16 n))
        (serialCopy s a1 a2 n m (s.target .op2 (a2 - BitVec.ofNat 16 n))) := by
  induction n generalizing a1 a2 m with
  | zero => simp [serialCopy]
  | succ n ih => rw [serialCopy, ih, sub_one_ofNat, sub_one_ofNat, ← serialCopy]

/-- `u` is inside an `MVC` from `a2` to `a1` that started in `s`, with `i` bytes copied. -/
structure Copying (s : State) (q : Byte) (a1 a2 : Word) (i : Nat) (u : State) : Prop where
  underway : Underway s s u q
  lsr8 : u.lsr8 = a1 - BitVec.ofNat 16 i
  lsr9 : u.lsr9 = a2 - BitVec.ofNat 16 i
  storage : ∀ ra, u.byteAt ra = serialCopy s a1 a2 i s.byteAt ra

theorem copying_enterTwo (hw : Memory.wf s.mem = true) (q : Byte) (o1 o2 : Operand) :
    Copying s q (s.address o1) (s.address o2) 0 (s.enterTwo q o1 o2) :=
  ⟨underway_enterTwo s q o1 o2 hw, (BitVec.sub_zero _).symm, (BitVec.sub_zero _).symm, fun _ => rfl⟩

theorem Copying.countQ (h : Copying s q a1 a2 i u) : Copying s q a1 a2 i u.countQ := by
  obtain ⟨h8, h9, -, hb, -⟩ := countQ_leaves u
  exact ⟨h.underway.countQ, h8.trans h.lsr8, h9.trans h.lsr9, fun ra => (hb ra).trans (h.storage ra)⟩

/-- The read of a byte cycle: the byte found, with LSR 9 one further (R24, R191). -/
theorem Copying.takeOp2 (h : Copying s q a1 a2 i u) (hr : s.canRead .op2 (a2 - BitVec.ofNat 16 i) = true) :
    ∃ v, u.countQ.takeOp2 = .ok (serialCopy s a1 a2 i s.byteAt (s.target .op2 (a2 - BitVec.ofNat 16 i))) v ∧
      Underway s s v q ∧ v.lsr8 = a1 - BitVec.ofNat 16 i ∧ v.lsr9 = a2 - BitVec.ofNat 16 (i + 1) ∧
      ∀ ra, v.byteAt ra = serialCopy s a1 a2 i s.byteAt ra := by
  obtain ⟨v, hv, under, h8, h9, -, hb⟩ := takeOp2_ok h.countQ.underway (h.countQ.lsr9 ▸ hr)
  rw [h.countQ.lsr9, h.countQ.storage] at hv
  exact ⟨v, hv, under, h8.trans h.countQ.lsr8, by rw [h9, h.countQ.lsr9, sub_ofNat_succ],
    fun ra => (hb ra).trans (h.countQ.storage ra)⟩

/-- A byte cycle that completes (R191). -/
theorem Copying.cycle (h : Copying s q a1 a2 i u) (hr : s.canRead .op2 (a2 - BitVec.ofNat 16 i) = true)
    (hw : s.canWrite .op1 (a1 - BitVec.ofNat 16 i) = true) (a : Unit) :
    ∃ a' v, mvcCycle i a u = .ok a' v ∧ Copying s q a1 a2 (i + 1) v := by
  obtain ⟨v, hv, under, h8, h9, hb⟩ := h.takeOp2 hr
  obtain ⟨w, hs, under, h8', h9', -, hb'⟩ := storeOp1_ok under
    (serialCopy s a1 a2 i s.byteAt (s.target .op2 (a2 - BitVec.ofNat 16 i))) (h8 ▸ hw)
  refine ⟨(), w.endCycle, by simp only [mvcCycle, hv, hs, Res.bind_ok], under.endCycle, ?_, h9'.trans h9,
    fun ra => ?_⟩
  · rw [State.endCycle_lsr8, h8', h8, sub_ofNat_succ]
  · rw [serialCopy_succ, Function.update_apply, ← hb ra, ← h8]
    exact hb' ra

/-- What an `MVC` that fails at byte `k` leaves (R24, R96, R281, R292). -/
structure CopyFaulted (s : State) (a1 a2 : Word) (k : Nat) (e : StopEvent) (t : State) : Prop where
  stopped : StoppedOn s t e
  visible : SameVisible s t
  control : SameControl s t
  lsr8 : t.lsr8 = a1 - BitVec.ofNat 16 k
  lsr9 : t.lsr9 = a2 - BitVec.ofNat 16 (if s.canRead .op2 (a2 - BitVec.ofNat 16 k) = true then k + 1 else k)
  storage : ∀ ra, t.byteAt ra = serialCopy s a1 a2 k s.byteAt ra

/-- A byte cycle whose read fails, or whose store fails after the read (R90, R96). -/
theorem Copying.cycle_faults (h : Copying s q a1 a2 k u)
    (hf : s.MoveFaults (a1 - BitVec.ofNat 16 k) (a2 - BitVec.ofNat 16 k) e) (a : Unit) :
    ∃ t, mvcCycle k a u = .stop t ∧ CopyFaulted s a1 a2 k e t := by
  obtain hr | ⟨hr, hw⟩ := hf
  · have hn : ¬s.canRead .op2 (a2 - BitVec.ofNat 16 k) = true := by simp [State.canRead, hr]
    have hs := takeOp2_error h.countQ.underway (h.countQ.lsr9 ▸ hr)
    obtain ⟨stopped, visible, control⟩ := h.countQ.underway.stop u.countQ.lsr9 e
    exact ⟨_, by rw [mvcCycle, hs, Res.bind_stop], stopped, visible, control, h.countQ.lsr8,
      by rw [if_neg hn]; exact h.countQ.lsr9, h.countQ.storage⟩
  · obtain ⟨v, hv, under, h8, h9, hb⟩ := h.takeOp2 hr
    have hs := storeOp1_error under (serialCopy s a1 a2 k s.byteAt (s.target .op2 (a2 - BitVec.ofNat 16 k))) (h8 ▸ hw)
    obtain ⟨stopped, visible, control⟩ := under.stop v.lsr8 e
    exact ⟨_, by rw [mvcCycle, hv, Res.bind_ok, hs, Res.bind_stop], stopped, visible, control, h8,
      by rw [if_pos hr]; exact h9, hb⟩

/-- Settles O40: `k` byte cycles complete, then cycle `k` faults. -/
theorem mvcKeepsCompletedBytesOnFault : Obligations.MvcKeepsCompletedBytesOnFault := by
  intro q o1 o2 s k e hw hk hread hwrite hfault
  obtain ⟨m, hm⟩ : ∃ m, fieldLength q = k + (m + 1) := ⟨q.toNat - k, by unfold fieldLength; omega⟩
  obtain ⟨t, ht, faulted⟩ := loop_stop (inv := fun i _ u => Copying s q (s.address o1) (s.address o2) i u)
    (body := mvcCycle) (Q := CopyFaulted s (s.address o1) (s.address o2) k e) k m 0 ()
    (fun i a u _ hi hu => hu.cycle (hread i (by omega)) (hwrite i (by omega)) a)
    (fun a u hu => by rw [Nat.zero_add] at hu ⊢; exact hu.cycle_faults hfault a) (copying_enterTwo hw q o1 o2)
  have hexec : exec (Form.two .mvc q o1 o2).instr s = .next t := by
    rw [exec_instr]
    change (mvcRun q (s.enterTwo q o1 o2)).outcome = .next t
    rw [mvcRun, hm, ht, Res.outcome_eq, Res.state_stop]
  have lsr9 := faulted.lsr9
  exact ⟨t, hexec, faulted.stopped, faulted.visible, faulted.control, faulted.lsr8,
    fun hr => by rwa [hr] at lsr9, fun hr => by rwa [if_pos hr] at lsr9, faulted.storage⟩

end Sys2Proof.Machine
end

section
/-! PROOF. Where an instruction stores: every store goes to an address of the form's operand 1 field, so no other
byte changes (spec/20_memory.md R80, R84-R86, spec/30_encoding.md R115). -/

namespace Sys2Proof.Machine

variable {α β : Type} {s t u v : State} {A : List Word} {la x r : Word} {q b : Byte} {o o1 o2 : Operand} {n i : Nat}

/-! ## The bytes that stay -/

/-- `u` is reached inside an instruction that started in `s`, and only bytes that may be written at an address of
`A` have changed. -/
structure OnlyStored (s : State) (A : List Word) (u : State) : Prop where
  checks : SameChecks s u
  wf : Memory.wf u.mem = true
  storage : ∀ ra, (∀ la ∈ A, s.writeCheck .op1 la ≠ .ok ra) → u.byteAt ra = s.byteAt ra

theorem OnlyStored.refl (hw : Memory.wf s.mem = true) (A : List Word) : OnlyStored s A s :=
  ⟨.refl s, hw, fun _ _ => rfl⟩

/-- An update outside storage and what the checks look at. -/
theorem OnlyStored.congr (h : OnlyStored s A u) (mem : v.mem = u.mem := by simp) (bmr : v.bmr = u.bmr := by simp)
    (pmr : v.pmr = u.pmr := by simp) (atr : v.atr = u.atr := by simp) (cfg : v.cfg = u.cfg := by simp) :
    OnlyStored s A v :=
  ⟨h.checks.trans ⟨pmr, atr, cfg⟩, mem ▸ h.wf, fun ra hra => (byteAt_congr mem bmr ra).trans (h.storage ra hra)⟩

theorem OnlyStored.readAt (h : OnlyStored s A u) (k : Kind) (la : Word) : OnlyStored s A (u.readAt k la).state := by
  obtain ⟨-, e⟩ | ⟨_, -, e⟩ := readAt_cases u k la <;> rw [e] <;> exact h.congr

/-- A store at an address of `A` (R80, R85). -/
theorem OnlyStored.writeAt (h : OnlyStored s A u) (hla : la ∈ A) (b : Byte) :
    OnlyStored s A (u.writeAt .op1 la b).state := by
  obtain ⟨hc, e⟩ | ⟨_, -, e⟩ := writeAt_cases u .op1 la b <;> rw [e]
  · have before : OnlyStored s A ((u.setMsar la).compare la (u.target .op1 la)) := h.congr
    refine ⟨before.checks.trans ⟨rfl, rfl, rfl⟩, Memory.wf_write before.wf, fun ra hra => ?_⟩
    have other : ra ≠ u.target .op1 la := by
      rintro rfl
      exact hra la hla (h.checks.writeCheck .op1 la ▸ canWrite_iff.mp hc)
    rw [Res.state_ok, byteAt_putByte before.wf, if_neg other]
    exact before.storage ra hra
  · exact h.congr

/-! ## The forms that store nothing -/

theorem OnlyStored.takeOp1 (h : OnlyStored s A u) : OnlyStored s A u.takeOp1.state :=
  Res.bind_state (h.readAt _ _) fun _ _ h => h.congr

theorem OnlyStored.takeOp2 (h : OnlyStored s A u) : OnlyStored s A u.takeOp2.state :=
  Res.bind_state (h.readAt _ _) fun _ _ h => h.congr

theorem OnlyStored.clcCycle (h : OnlyStored s A u) (i : Nat) (a : Unit) : OnlyStored s A (clcCycle i a u).state :=
  Res.bind_state (OnlyStored.takeOp2 (h.congr)) fun _ _ h => Res.bind_state h.takeOp1 fun _ _ h => h.congr

theorem OnlyStored.testOp1 (h : OnlyStored s A u) (f : Byte → Bool) : OnlyStored s A (testOp1 f u).state :=
  Res.bind_state h.takeOp1 fun _ _ h => h.congr

theorem OnlyStored.loadReg (h : OnlyStored s A u) (r : Reg) : OnlyStored s A (loadReg r u).state :=
  Res.bind_state h.takeOp1 fun _ _ h => Res.bind_state (OnlyStored.takeOp1 h.congr) fun _ _ h => h.congr

theorem OnlyStored.addToLsr (h : OnlyStored s A u) (r : Reg) : OnlyStored s A (addToLsr r u).state :=
  Res.bind_state h.takeOp1 fun _ _ h => Res.bind_state (OnlyStored.takeOp1 h.congr) fun _ _ h => h.congr

theorem OnlyStored.addToPsr (h : OnlyStored s A u) : OnlyStored s A (addToPsr u).state :=
  Res.bind_state h.takeOp1 fun _ _ h => Res.bind_state (OnlyStored.takeOp1 h.congr) fun _ _ h => h.congr

theorem OnlyStored.addTo (h : OnlyStored s A u) (r : Reg) : OnlyStored s A (addTo r u).state := by
  cases r with
  | psr => exact h.addToPsr
  | xr1 => exact h.addToLsr .xr1
  | xr2 => exact h.addToLsr .xr2
  | arr => exact h.addToLsr .arr
  | iar => exact h.addToLsr .iar

/-! ## Operations that step through the operand 1 field -/

/-- `r` completes with a value and a state of `P`, or stops in a state of `Q`. -/
def Res.Ends (Q : State → Prop) (P : α → State → Prop) : Res α → Prop
  | .ok a t => P a t
  | .stop t => Q t

theorem Res.Ends.bind {Q : State → Prop} {P : α → State → Prop} {P' : β → State → Prop} {r : Res α}
    {f : α → State → Res β} (h : r.Ends Q P) (hf : ∀ a t, P a t → (f a t).Ends Q P') : (r.bind f).Ends Q P' := by
  cases r with
  | ok a t => exact hf a t h
  | stop t => exact h

/-- A property of both ends holds of the state left. -/
theorem Res.Ends.state {Q : State → Prop} {P : α → State → Prop} {r : Res α} (h : r.Ends Q P)
    (hP : ∀ a t, P a t → Q t) : Q r.state := by
  cases r with
  | ok a t => exact hP a t h
  | stop t => exact h

theorem Res.Ends.bind_state {Q : State → Prop} {P : α → State → Prop} {r : Res α} {f : α → State → Res β}
    (h : r.Ends Q P) (hf : ∀ a t, P a t → Q (f a t).state) : Q (r.bind f).state := by
  cases r with
  | ok a t => exact hf a t h
  | stop t => exact h

/-- If cycle `k` leads from the invariant of `k` to that of `k + 1`, or stops in `Q`, so do all cycles of the loop. -/
theorem loop_ends {Q : State → Prop} {I : Nat → α → State → Prop} {body : Nat → α → State → Res α} {a : α}
    (h : ∀ k a t, i ≤ k → k < i + n → I k a t → (body k a t).Ends Q (I (k + 1))) (hs : I i a s) :
    (loop body n i a s).Ends Q (I (i + n)) := by
  induction n generalizing i a s with
  | zero => exact hs
  | succ n ih =>
    refine (h i a s (Nat.le_refl _) (by omega) hs).bind fun a t ht => ?_
    rw [show i + (n + 1) = i + 1 + n by omega]
    exact ih (fun k a t hk hl => h k a t (by omega) (by omega)) ht

/-- `OnlyStored`, with LSR 8 at `x` and the ARR at `r`. -/
structure Storing (s : State) (A : List Word) (x r : Word) (u : State) : Prop extends OnlyStored s A u where
  lsr8 : u.lsr8 = x
  arr : u.arr = r

/-- An update outside storage, what the checks look at, LSR 8 and the ARR. -/
theorem Storing.congr (h : Storing s A x r u) (mem : v.mem = u.mem := by simp) (bmr : v.bmr = u.bmr := by simp)
    (pmr : v.pmr = u.pmr := by simp) (atr : v.atr = u.atr := by simp) (cfg : v.cfg = u.cfg := by simp)
    (lsr8 : v.lsr8 = u.lsr8 := by simp) (arr : v.arr = u.arr := by simp) : Storing s A x r v :=
  ⟨h.toOnlyStored.congr mem bmr pmr atr cfg, lsr8.trans h.lsr8, arr.trans h.arr⟩

theorem Storing.downOp1 (h : Storing s A x r u) : Storing s A (x - 1) r u.downOp1 :=
  ⟨h.toOnlyStored.congr, congrArg (· - 1) h.lsr8, h.arr⟩

/-- An instruction step that leads from LSR 8 and the ARR at their places to the places given, or stops. -/
abbrev Stores (s : State) (A : List Word) (x r : Word) (res : Res α) : Prop :=
  res.Ends (OnlyStored s A) fun _ => Storing s A x r

theorem Storing.readAt (h : Storing s A x r u) (k : Kind) (la : Word) : Stores s A x r (u.readAt k la) := by
  have stays := h.toOnlyStored.readAt k la
  obtain ⟨-, e⟩ | ⟨_, -, e⟩ := readAt_cases u k la <;> rw [e] at stays ⊢
  · exact ⟨stays, h.lsr8, h.arr⟩
  · exact stays

theorem Storing.writeAt (h : Storing s A x r u) (hla : la ∈ A) (b : Byte) : Stores s A x r (u.writeAt .op1 la b) := by
  have stays := h.toOnlyStored.writeAt hla b
  obtain ⟨-, e⟩ | ⟨_, -, e⟩ := writeAt_cases u .op1 la b <;> rw [e] at stays ⊢
  · exact ⟨stays, h.lsr8, h.arr⟩
  · exact stays

theorem Storing.writeOp1 (h : Storing s A x r u) (hx : x ∈ A) (b : Byte) : Stores s A x r (u.writeOp1 b) :=
  h.writeAt (h.lsr8 ▸ hx) b

theorem Storing.takeOp2 (h : Storing s A x r u) : Stores s A x r u.takeOp2 :=
  (h.readAt _ _).bind fun _ _ h => h.congr

theorem Storing.storeOp1 (h : Storing s A x r u) (hx : x ∈ A) (b : Byte) : Stores s A (x - 1) r (u.storeOp1 b) :=
  (h.writeOp1 hx b).bind fun _ _ h => h.downOp1

/-! ## Byte cycles -/

theorem Storing.mvcCycle (h : Storing s A x r u) (hx : x ∈ A) (i : Nat) (a : Unit) :
    Stores s A (x - 1) r (mvcCycle i a u) :=
  (Storing.takeOp2 h.congr).bind fun _ _ h => (h.storeOp1 hx _).bind fun _ _ h => h.congr

theorem Storing.alcCycle (h : Storing s A x r u) (hx : x ∈ A) (i : Nat) (a : BinAcc) :
    Stores s A (x - 1) r (alcCycle i a u) :=
  (Storing.takeOp2 h.congr).bind fun _ _ h => (h.readAt _ _).bind fun _ _ h =>
    (Storing.storeOp1 h.congr hx _).bind fun _ _ h => h.congr

theorem Storing.slcCycle (h : Storing s A x r u) (hx : x ∈ A) (i : Nat) (a : BinAcc) :
    Stores s A (x - 1) r (slcCycle i a u) :=
  (Storing.takeOp2 h.congr).bind fun _ _ h => (h.readAt _ _).bind fun _ _ h =>
    (Storing.storeOp1 h.congr hx _).bind fun _ _ h => h.congr

theorem Storing.takeDigit (h : Storing s A x r u) (i : Nat) (a : EditAcc) : Stores s A x r (takeDigit i a u) := by
  unfold Machine.takeDigit
  split
  · exact h.takeOp2.bind fun _ _ h => h
  · exact h

theorem Storing.edCycle (h : Storing s A x r u) (hx : x ∈ A) (i : Nat) (a : EditAcc) :
    Stores s A (x - 1) r (edCycle i a u) := by
  refine (Storing.takeDigit h.congr i a).bind fun _ _ h => (h.readAt _ _).bind fun b t h => ?_
  split
  · exact (h.storeOp1 hx _).bind fun _ _ h => h.congr
  · exact h.downOp1.congr

theorem Storing.zazCycle (h : Storing s A x r u) (hx : x ∈ A) (l2 i : Nat) (a : ZazAcc) :
    Stores s A (x - 1) r (zazCycle l2 i a u) := by
  unfold Machine.zazCycle
  simp only []
  split
  · exact (Storing.takeOp2 h.congr).bind fun _ _ h => (h.storeOp1 hx _).bind fun _ _ h => h.congr
  · exact (Storing.storeOp1 h.congr hx _).bind fun _ _ h => h.congr

theorem Storing.takeDigit2 (h : Storing s A x r u) (l2 i : Nat) : Stores s A x r (takeDigit2 l2 i u) := by
  unfold Machine.takeDigit2
  split
  · exact h.takeOp2
  · exact h

theorem Storing.addCycle (h : Storing s A x r u) (hx : x ∈ A) (sub : Bool) (l2 i : Nat) (a : AddAcc) :
    Stores s A (x - 1) r (addCycle sub l2 i a u) :=
  (Storing.takeDigit2 h.congr l2 i).bind fun _ _ h => (h.readAt _ _).bind fun _ _ h =>
    (Storing.storeOp1 h.congr hx _).bind fun _ _ h => h.congr

/-- The read through the ARR answers the address it used (R157). -/
theorem Storing.takeArr (h : Storing s A x r u) :
    u.takeArr.Ends (OnlyStored s A) fun p v => p.2 = r ∧ Storing s A x (r - 1) v :=
  (h.readAt _ _).bind fun _ _ h' => ⟨h.arr, h'.toOnlyStored.congr, h'.lsr8, congrArg (· - 1) h.arr⟩

theorem Storing.recomplementCycle (h : Storing s A x r u) (hr : r ∈ A) (n1 : Bool) (i : Nat) (a : RecompAcc) :
    Stores s A x (r - 1) (recomplementCycle n1 i a u) := by
  unfold Machine.recomplementCycle
  refine (Storing.takeArr (x := x) (r := r) ?_).bind fun p v ⟨hp, h⟩ =>
    (Storing.writeAt h.congr (hp ▸ hr) _).bind fun _ _ h => h
  split
  · exact h
  · exact h.congr

theorem Storing.clearNegativeZero (h : Storing s A x r u) (hr : r ∈ A) : Stores s A x (r - 1) u.clearNegativeZero :=
  (Storing.takeArr h.congr).bind fun _ _ ⟨hp, h⟩ => Storing.writeAt h.congr (hp ▸ hr) _

/-! ## The operand 1 field -/

/-- The `n` addresses of the field that ends at `a` (R11, R73). -/
def fieldDown (a : Word) (n : Nat) : List Word := (List.range n).map fun i => a - BitVec.ofNat 16 i

theorem mem_fieldDown (a : Word) (hi : i < n) : a - BitVec.ofNat 16 i ∈ fieldDown a n :=
  List.mem_map_of_mem (List.mem_range.mpr hi)

theorem length1_pos (q : Byte) : 0 < length1 q := Nat.lt_of_lt_of_le (Nat.succ_pos _) (Nat.le_add_left _ _)

/-- A loop whose cycles step an address down from byte to byte of the field (R73). -/
theorem loop_down {Q : State → Prop} {I : Word → State → Prop} {body : Nat → α → State → Res α} {a : α} (h : I x u)
    (hbody : ∀ {y v} i a, I y v → y ∈ fieldDown x n → (body i a v).Ends Q fun _ => I (y - 1)) :
    (loop body n 0 a u).Ends Q fun _ => I (x - BitVec.ofNat 16 (0 + n)) :=
  loop_ends (I := fun i _ => I (x - BitVec.ofNat 16 i))
    (fun i a _ _ hi hv => sub_ofNat_succ x i ▸ hbody i a hv (mem_fieldDown x (by omega)))
    (by rw [BitVec.sub_zero]; exact h)

/-- The loop over the operand 1 field that steps LSR 8 down (R73). -/
theorem Storing.loopDown {body : Nat → α → State → Res α} {a : α} (h : Storing s (fieldDown x n) x r u)
    (hbody : ∀ {y v} i a, Storing s (fieldDown x n) y r v → y ∈ fieldDown x n →
      Stores s (fieldDown x n) (y - 1) r (body i a v)) :
    Stores s (fieldDown x n) (x - BitVec.ofNat 16 (0 + n)) r (loop body n 0 a u) :=
  loop_down (I := fun y => Storing s (fieldDown x n) y r) h hbody

/-! ## The forms that store -/

theorem OnlyStored.finishAdd (h : OnlyStored s A u) (nz neg : Bool) : OnlyStored s A (finishAdd nz neg u).state :=
  OnlyStored.congr (v := u.setPsr _) h

theorem Storing.zazRun (h : Storing s (fieldDown x (length1 q)) x x u) :
    OnlyStored s (fieldDown x (length1 q)) (zazRun q u).state := by
  have top := mem_fieldDown x (length1_pos q)
  rw [BitVec.sub_zero] at top
  refine (h.loopDown fun i a h hy => h.zazCycle hy _ i a).bind_state fun acc v h =>
    Res.bind_state ?_ fun _ _ h => h.congr
  split
  · exact (h.clearNegativeZero top).state fun _ _ h => h.toOnlyStored
  · exact h.toOnlyStored

theorem Storing.settleAdd {l1 : Nat} {y : Word} (h : Storing s (fieldDown x l1) y x u) (hl : 0 < l1) (acc : AddAcc) :
    OnlyStored s (fieldDown x l1) (settleAdd l1 acc u).state := by
  have top := mem_fieldDown x hl
  rw [BitVec.sub_zero] at top
  have flagged : Storing s (fieldDown x l1) y x
      (if !acc.comp && acc.c then u.setPsr (setFlag u.psr psrDO true) else u) := by
    split
    · exact h.congr
    · exact h
  unfold Machine.settleAdd
  simp only []
  split
  · exact (loop_down (I := fun r => Storing s (fieldDown x l1) y r) flagged.congr
      fun i a h hr => h.recomplementCycle hr _ i a).bind_state fun _ _ h => h.toOnlyStored.finishAdd _ _
  · split
    · exact (flagged.clearNegativeZero top).bind_state fun _ _ h => h.toOnlyStored.finishAdd _ _
    · exact flagged.toOnlyStored.finishAdd _ _

theorem Storing.zonedAddSub (h : Storing s (fieldDown x (length1 q)) x x u) (sub : Bool) :
    OnlyStored s (fieldDown x (length1 q)) (zonedAddSub sub q u).state :=
  (h.loopDown fun i a h hy => h.addCycle hy sub _ i a).bind_state fun acc _ h => h.settleAdd (length1_pos q) acc

theorem Storing.edRun (h : Storing s (fieldDown x (fieldLength q)) x r u) (wasEqual : Bool) :
    OnlyStored s (fieldDown x (fieldLength q)) (edRun q wasEqual u).state := by
  refine (h.loopDown fun i a h hy => h.edCycle hy i a).bind_state fun acc v h => ?_
  split <;> exact h.toOnlyStored.congr

/-- Before byte cycle `i` of `ITC`, LSR 8 is at byte `i` from the left, unless a significant byte has been found
(R196). -/
def Inserting (s : State) (A : List Word) (a1 : Word) (i : Nat) (found : Bool) (u : State) : Prop :=
  ∃ x r, Storing s A x r u ∧ (found = false → x = a1 + BitVec.ofNat 16 i)

theorem Inserting.itcCycle {a1 : Word} {found : Bool} (h : Inserting s A a1 i found u)
    (hi : a1 + BitVec.ofNat 16 i ∈ A) (fill : Byte) :
    (itcCycle fill i found u).Ends (OnlyStored s A) (Inserting s A a1 (i + 1)) := by
  obtain ⟨x, r, h, hx⟩ := h
  unfold Machine.itcCycle
  split <;> rename_i hf
  · exact ⟨x, r, h, nofun⟩
  · obtain rfl := hx (Bool.eq_false_iff.mpr hf)
    have located : Storing s A (a1 + BitVec.ofNat 16 i) (a1 + BitVec.ofNat 16 i) (u.countQ.setArr u.countQ.lsr8) :=
      ⟨h.toOnlyStored.congr, by simp [h.lsr8], by simp [h.lsr8]⟩
    refine (located.readAt _ _).bind fun b v h => ?_
    split
    · exact ⟨_, _, h.congr, nofun⟩
    · refine (h.writeOp1 hi fill).bind fun _ w h => ⟨_, _, ⟨h.toOnlyStored.congr, ?_, rfl⟩, fun _ => rfl⟩
      rw [State.endCycle_lsr8, State.upOp1_lsr8, h.lsr8, add_ofNat_succ]

theorem Storing.itcRun {a1 : Word} (h : Storing s A a1 r u) (hA : ∀ i < fieldLength q, a1 + BitVec.ofNat 16 i ∈ A) :
    OnlyStored s A (itcRun q u).state := by
  refine h.takeOp2.bind_state fun fill v h => (loop_ends (I := Inserting s A a1)
    (fun i found w _ hi hw => hw.itcCycle (hA i (by omega)) fill)
    ⟨a1, r, h, fun _ => (BitVec.add_zero a1).symm⟩).bind_state fun found w ⟨_, _, h, _⟩ => ?_
  simp only [Res.state_ok]
  split
  · exact h.toOnlyStored
  · exact h.toOnlyStored.congr

theorem Storing.mvxRun (h : Storing s A x r u) (hx : x ∈ A) (q : Byte) : OnlyStored s A (mvxRun q u).state :=
  (h.readAt _ _).bind_state fun _ _ h => (h.readAt _ _).bind_state fun _ _ h =>
    (h.writeOp1 hx _).bind_state fun _ _ h => h.toOnlyStored.congr

theorem Storing.modifyOp1 (h : Storing s A x r u) (hx : x ∈ A) (f : Byte → Byte) :
    OnlyStored s A (modifyOp1 f u).state :=
  (h.readAt _ _).bind_state fun _ _ h => (h.storeOp1 hx _).bind_state fun _ _ h => h.toOnlyStored.congr

theorem Storing.storeReg (h : Storing s A x r u) (hx : x ∈ A) (hx' : x - 1 ∈ A) (reg : Reg) :
    OnlyStored s A (storeReg reg u).state :=
  (h.storeOp1 hx _).bind_state fun _ _ h => (Storing.storeOp1 h.congr hx' _).bind_state fun _ _ h => h.toOnlyStored

/-! ## Every instruction -/

theorem storing_enterTwo (hw : Memory.wf s.mem = true) (A : List Word) (q : Byte) (o1 o2 : Operand) :
    Storing s A (s.address o1) s.arr (s.enterTwo q o1 o2) :=
  ⟨(OnlyStored.refl hw A).congr, rfl, rfl⟩

theorem storing_enterDecimal (hw : Memory.wf s.mem = true) (A : List Word) (q : Byte) (o1 o2 : Operand) :
    Storing s A (s.address o1) (s.address o1) (s.enterDecimal q o1 o2) :=
  ⟨(OnlyStored.refl hw A).congr, rfl, rfl⟩

theorem storing_enterOne (hw : Memory.wf s.mem = true) (A : List Word) (q : Byte) (o : Operand) :
    Storing s A (s.address o) s.arr (s.enterOne q o) :=
  ⟨(OnlyStored.refl hw A).congr, rfl, rfl⟩

theorem twoForm_onlyStored {op : TwoOp} (hw : Memory.wf s.mem = true) (h : twoForm op q o1 o2 s = .next t) :
    OnlyStored s (s.storedAt (.two op q o1 o2)) t := by
  have entered := storing_enterTwo hw (s.storedAt (.two op q o1 o2)) q o1 o2
  have decimal := storing_enterDecimal hw (s.storedAt (.two op q o1 o2)) q o1 o2
  cases op <;> obtain rfl := outcome_eq_next.mp h
  case zaz => exact decimal.zazRun
  case az => exact decimal.zonedAddSub false
  case sz => exact decimal.zonedAddSub true
  case mvx => exact entered.mvxRun (List.mem_singleton.mpr rfl) q
  case ed => exact entered.edRun _
  case itc => exact entered.itcRun fun i hi => List.mem_map_of_mem (List.mem_range.mpr hi)
  case mvc => exact (entered.loopDown fun i a h hy => h.mvcCycle hy i a).state fun _ _ h => h.toOnlyStored
  case clc => exact loop_state (fun i a _ h => h.clcCycle i a) _ _ _ entered.toOnlyStored
  case alc => exact (entered.loopDown fun i a h hy => h.alcCycle hy i a).bind_state fun _ _ h => h.toOnlyStored.congr
  case slc => exact (entered.loopDown fun i a h hy => h.slcCycle hy i a).bind_state fun _ _ h => h.toOnlyStored.congr

theorem oneForm_onlyStored {op : OneOp} (hw : Memory.wf s.mem = true) (h : oneForm op q o s = .next t) :
    OnlyStored s (s.storedAt (.one op q o)) t := by
  have entered := storing_enterOne hw (s.storedAt (.one op q o)) q o
  cases op
  case st =>
    obtain rfl | ⟨r, -, rfl⟩ := selectForm_next rfl h
    · exact entered.toOnlyStored
    · exact entered.storeReg (List.mem_cons_self ..) (List.mem_cons_of_mem _ (List.mem_singleton.mpr rfl)) r
  case l =>
    obtain rfl | ⟨r, -, rfl⟩ := selectForm_next rfl h
    · exact entered.toOnlyStored
    · exact entered.toOnlyStored.loadReg r
  case a =>
    obtain rfl | ⟨r, -, rfl⟩ := selectForm_next rfl h
    · exact entered.toOnlyStored
    · exact entered.toOnlyStored.addTo r
  all_goals obtain rfl := outcome_eq_next.mp h
  case tbn => exact entered.toOnlyStored.testOp1 _
  case tbf => exact entered.toOnlyStored.testOp1 _
  case cli => exact Res.bind_state entered.toOnlyStored.takeOp1 fun _ _ h => h.congr
  case sbn => exact entered.modifyOp1 (List.mem_singleton.mpr rfl) _
  case sbf => exact entered.modifyOp1 (List.mem_singleton.mpr rfl) _
  case mvi =>
    exact (entered.storeOp1 (List.mem_singleton.mpr rfl) q).bind_state fun _ _ h => h.toOnlyStored.congr

/-- The type Z instructions make no access to storage (R206, R237). -/
theorem addrForm_sameStorage {op : AddrOp} (h : addrForm op q o s = .next t) : SameStorage s t := by
  intro ra
  cases op with
  | la =>
    obtain rfl := Host.Outcome.next.inj h
    exact byteAt_congr (by simp) (by simp) ra
  | bc =>
    simp only [addrForm, bcForm] at h
    split at h <;> obtain rfl := Host.Outcome.next.inj h <;> rfl

/-- Nor do the command instructions (R260). -/
theorem cmdForm_sameStorage {op : CmdOp} {b : Byte} (h : cmdForm op q b s = .next t) : SameStorage s t := by
  intro ra
  cases op <;> obtain rfl := Host.Outcome.next.inj h
  case svc => rfl
  case jc | lpmr => split <;> rfl

/-- Settles O23: each form stores in its own operand 1 field only. -/
theorem storesOnlyWhereOperand1MayWrite : Obligations.StoresOnlyWhereOperand1MayWrite := by
  intro i s t hw h
  rw [exec_eq_execForm] at h
  generalize i.form = f at h ⊢
  cases f with
  | two op q o1 o2 => exact (twoForm_onlyStored hw h).storage
  | one op q o => exact (oneForm_onlyStored hw h).storage
  | addr op q o => exact fun ra _ => addrForm_sameStorage h ra
  | cmd op q r => exact fun ra _ => cmdForm_sameStorage h ra

end Sys2Proof.Machine
end

section
/-! PROOF. Decoding and encoding are inverse, and what of a byte string the first half-byte decides
(spec/30_encoding.md R110-R128). -/

namespace Sys2Proof

open Machine

variable {m : Mode} {bytes : List Byte}

/-! ## Decoding what was encoded -/

/-- The operands of a form are read back from its bytes (R115). -/
theorem decodeOperands_operandBytes (f : Form) (rest : List Byte) :
    decodeOperands f.header f.qByte (f.operandBytes ++ rest) = some (f, rest) := by
  cases f with
  | two op q o1 o2 =>
    simp only [Form.header, Form.qByte, Form.operandBytes, decodeOperands, List.append_assoc, takeOperand_bytes]
  | one op q o | addr op q o =>
    simp only [Form.header, Form.qByte, Form.operandBytes, decodeOperands, takeOperand_bytes]
  | cmd op q r => rfl

/-- Settles O2: the op byte gives the header back, the header the operands, and the form the instruction. -/
theorem decodeOfEncode : Obligations.DecodeOfEncode := by
  intro i rest
  simp only [encode, List.cons_append, decode, headerOf_opByte, decodeOperands_operandBytes, instr_form]

/-- Settles O3: what decodes is an op byte, a Q-byte and the operand bytes of its form. -/
theorem encodeOfDecode : Obligations.EncodeOfDecode := by
  intro bytes rest i hd
  obtain ⟨op, h, rfl, -, -, rfl⟩ := decode_eq_ok hd
  rfl

/-- Settles O1: each word is evaluated. -/
theorem decodeReadsWrittenWords : Obligations.DecodeReadsWrittenWords := by
  unfold Obligations.DecodeReadsWrittenWords
  decide

/-! ## The length of an instruction -/

/-- The length by the first half-byte is that of the op byte's header (R112, R114). -/
theorem formatLength_opByte (h : Header) : formatLength (zone h.opByte) = 2 + h.operandLength := by
  cases h with
  | two op m1 m2 => cases op <;> cases m1 <;> cases m2 <;> rfl
  | one op m => cases op <;> cases m <;> rfl
  | addr op m => cases op <;> cases m <;> rfl
  | cmd op => cases op <;> rfl

theorem Mode.length_bounds (m : Mode) : 1 ≤ m.length ∧ m.length ≤ 2 := by cases m <;> decide

/-- From 1 to 4 bytes follow the Q-byte (R114). -/
theorem Header.operandLength_bounds (h : Header) : 1 ≤ h.operandLength ∧ h.operandLength ≤ 4 := by
  cases h with
  | two op m1 m2 =>
    have := m1.length_bounds
    have := m2.length_bounds
    simp only [Header.operandLength]
    omega
  | one op m | addr op m =>
    have := m.length_bounds
    simp only [Header.operandLength]
    omega
  | cmd op => simp [Header.operandLength]

theorem length_encode (i : Instr) : (encode i).length = 2 + i.form.operandBytes.length := by
  simp only [encode, List.length_cons]
  omega

/-- Settles O5: all three lengths count the bytes after the Q-byte. -/
theorem instructionLengthByFirstHalfByte : Obligations.InstructionLengthByFirstHalfByte := by
  intro i
  have bounds := i.form.header.operandLength_bounds
  rw [length_encode, formatLength_opByte]
  refine ⟨by rw [length_operandBytes], ?_, by rw [length_operandBytes]; omega, by rw [length_operandBytes]; omega⟩
  cases i.form <;> simp [Form.operandBytes, Nat.add_assoc]

/-! ## The op codes that decode (R119, R128) -/

/-- Bytes enough for an operand of this addressing are an operand and the bytes after it (R115). -/
theorem takeOperand_of_length (hl : m.length ≤ bytes.length) :
    ∃ o rest, takeOperand m bytes = some (o, rest) ∧ bytes.length = m.length + rest.length := by
  match m, bytes, hl with
  | .direct, h :: l :: rest, _ => exact ⟨_, rest, rfl, by simp [Mode.length]; omega⟩
  | .xr1, d :: rest, _ => exact ⟨_, rest, rfl, by simp [Mode.length]; omega⟩
  | .xr2, d :: rest, _ => exact ⟨_, rest, rfl, by simp [Mode.length]; omega⟩

/-- Bytes enough for the operands of a header decode (R115). -/
theorem decodeOperands_of_length {h : Header} (q : Byte) (hl : h.operandLength ≤ bytes.length) :
    ∃ f rest, decodeOperands h q bytes = some (f, rest) := by
  cases h with
  | two op m1 m2 =>
    simp only [Header.operandLength] at hl
    obtain ⟨o1, rest, h1, hlen⟩ := takeOperand_of_length (m := m1) (bytes := bytes) (by omega)
    obtain ⟨o2, rest, h2, -⟩ := takeOperand_of_length (m := m2) (bytes := rest) (by omega)
    simp only [decodeOperands, h1, h2]
    exact ⟨_, _, rfl⟩
  | one op m | addr op m =>
    obtain ⟨o, rest, h, -⟩ := takeOperand_of_length hl
    simp only [decodeOperands, h]
    exact ⟨_, _, rfl⟩
  | cmd op =>
    match bytes, hl with
    | r :: rest, _ => exact ⟨_, _, rfl⟩

/-- R119's matrix by half-bytes: nine two-address rows, three of type Y, three of type Z, and hex F. -/
def definedOp (op : Byte) : Bool :=
  ([0x0, 0x1, 0x2, 0x4, 0x5, 0x6, 0x8, 0x9, 0xA].contains (op >>> 4).toNat &&
      [0x4, 0x6, 0x7, 0x8, 0xA, 0xB, 0xC, 0xD, 0xE, 0xF].contains (op &&& 0x0F).toNat) ||
    ([0x3, 0x7, 0xB].contains (op >>> 4).toNat &&
      [0x4, 0x5, 0x6, 0x8, 0x9, 0xA, 0xB, 0xC, 0xD].contains (op &&& 0x0F).toNat) ||
    ([0xC, 0xD, 0xE].contains (op >>> 4).toNat && [0x0, 0x2].contains (op &&& 0x0F).toNat) ||
    [0xF2, 0xF4, 0xF6].contains op.toNat

/-- The op bytes with a header are those of the matrix. -/
theorem isSome_headerOf : ∀ op, (headerOf op).isSome = definedOp op := by decide +kernel

/-- Settles O4: the matrix decides whether there is a header, and six bytes hold the operands of any. -/
theorem decodeRejectsExactlyUndefinedOps : Obligations.DecodeRejectsExactlyUndefinedOps := by
  intro op b1 b2 b3 b4 b5
  have hmatrix := isSome_headerOf op
  cases hh : headerOf op with
  | none =>
    rw [hh] at hmatrix
    rw [if_neg (by simpa [definedOp, and_assoc, or_assoc] using hmatrix.symm)]
    simp only [decode, hh]
  | some h =>
    rw [hh] at hmatrix
    rw [if_pos (by simpa [definedOp, and_assoc, or_assoc] using hmatrix.symm)]
    obtain ⟨f, rest, hd⟩ := decodeOperands_of_length (h := h) (bytes := [b2, b3, b4, b5]) b1 h.operandLength_bounds.2
    simp only [decode, hh, hd]
    exact ⟨_, _, rfl⟩

end Sys2Proof
end

section
/-! PROOF. Which instructions answer, and those that select no register (spec/30_encoding.md R124, R129). -/

namespace Sys2Proof.Machine

variable {s : State} {q : Byte} {o o1 o2 : Operand} {op : OneOp} {run : Reg → State → Res Unit}

/-! ## `ST`, `L` and `A` by their register-select Q-byte (R124) -/

/-- They run on the register selected. -/
theorem selectForm_reg {r : Reg} (hr : selectRun op = some run) (hq : selectOf q = .reg r) :
    oneForm op q o s = .next (run r (s.enterOne q o)).state := by
  cases op <;> cases hr <;> simp only [oneForm, stForm, lForm, aForm, hq, Res.outcome_eq]

/-- They are ignored where none is selected. -/
theorem selectForm_ignored (hr : selectRun op = some run) (hq : selectOf q = .ignored) :
    oneForm op q o s = .next (s.enterOne q o) := by
  cases op <;> cases hr <;> simp only [oneForm, stForm, lForm, aForm, hq]

/-- They are refused where the Q-byte is reserved (R129). -/
theorem selectForm_undefined (hr : selectRun op = some run) (hq : selectOf q = .undefined) :
    oneForm op q o s = .refused (.undefinedQ q) := by
  cases op <;> cases hr <;> simp only [oneForm, stForm, lForm, aForm, hq]

theorem selectOf_eq_undefined : ∀ q, selectOf q = .undefined ↔ definedSelect q = false := by decide +kernel

theorem definedSelect_iff : ∀ q,
    definedSelect q = true ↔ q.toNat ∈ [0x00, 0x01, 0x02, 0x04, 0x08, 0x10, 0x20] := by decide +kernel

/-! ## Answers -/

/-- A register-select instruction answers a next state unless its Q-byte is reserved. -/
theorem selectForm_answers (hr : selectRun op = some run) (hq : definedSelect q = true) :
    ∃ t, oneForm op q o s = .next t := by
  cases hs : selectOf q with
  | ignored => exact ⟨_, selectForm_ignored hr hs⟩
  | reg r => exact ⟨_, selectForm_reg hr hs⟩
  | undefined => rw [(selectOf_eq_undefined q).mp hs] at hq; cases hq

/-- A form that is not well formed selects a register by a reserved Q-byte (R129). -/
theorem selects_of_not_wellFormed {f : Form} (h : f.wellFormed = false) :
    ∃ op run o, f = .one op f.qByte o ∧ selectRun op = some run ∧ definedSelect f.qByte = false := by
  unfold Form.wellFormed at h
  split at h
  case h_1 q o => exact ⟨.st, _, o, rfl, rfl, h⟩
  case h_2 q o => exact ⟨.l, _, o, rfl, rfl, h⟩
  case h_3 q o => exact ⟨.a, _, o, rfl, rfl, h⟩
  all_goals cases h

/-- A well-formed form answers a next state: of its completion or of its stop (log 5). -/
theorem execForm_answers {f : Form} (h : f.wellFormed = true) : ∃ t, execForm f s = .next t := by
  cases f with
  | two op q o1 o2 => cases op <;> exact ⟨_, Res.outcome_eq _⟩
  | one op q o =>
    cases op
    case st => exact selectForm_answers (op := .st) rfl h
    case l => exact selectForm_answers (op := .l) rfl h
    case a => exact selectForm_answers (op := .a) rfl h
    all_goals exact ⟨_, Res.outcome_eq _⟩
  | addr op q o =>
    cases op with
    | la => exact ⟨_, rfl⟩
    | bc =>
      simp only [execForm, addrForm, bcForm]
      split <;> exact ⟨_, rfl⟩
  | cmd op q r => cases op <;> exact ⟨_, rfl⟩

/-- Settles O22: only the register-select instructions refuse, and only a reserved Q-byte. -/
theorem execAnswersUnlessReservedSelect : Obligations.ExecAnswersUnlessReservedSelect := by
  intro i s
  rw [exec_eq_execForm]
  refine ⟨execForm_answers, fun h => ?_⟩
  obtain ⟨op, run, o, hf, hr, hq⟩ := selects_of_not_wellFormed (Bool.eq_false_iff.mpr h)
  refine ⟨?_, fun hmem => ?_⟩
  · rw [hf]
    exact selectForm_undefined hr ((selectOf_eq_undefined _).mpr hq)
  · rw [(definedSelect_iff _).mpr hmem] at hq
    cases hq

/-! ## Instructions that make no access -/

/-- Entering a one-address instruction changes the sequencing only (R24, R31, R38). -/
theorem completesOne_enterOne (s : State) (q : Byte) (o : Operand) : CompletesOne s (s.enterOne q o) q :=
  ⟨⟨.refl s, by simp [NoStop, State.enterOne, State.enter], by simp [SameSequencing, State.enterOne, State.enter]⟩, rfl,
    rfl⟩

/-- Settles O45: the state entered is the one answered. -/
theorem selectNoneIsIgnored : Obligations.SelectNoneIsIgnored := by
  intro op o s hop
  obtain ⟨run, hr⟩ : ∃ run, selectRun op = some run := by obtain rfl | rfl | rfl := hop <;> exact ⟨_, rfl⟩
  refine ⟨_, ?_, completesOne_enterOne s 0x00 o, by simp [SameVisible, State.enterOne, State.enter], fun _ => rfl⟩
  rw [exec_instr]
  exact selectForm_ignored hr rfl

/-- `LA` changes one index register and the sequencing (R206). -/
theorem completesOne_loadIndex (s : State) (q : Byte) (o : Operand) (v : Word) :
    CompletesOne s ((s.enterOne q o).loadIndex q v) q := by
  obtain ⟨⟨control, nostop, seq⟩, carry, lsr9⟩ := completesOne_enterOne s q o
  unfold State.loadIndex
  split <;> exact ⟨⟨control, nostop, seq⟩, carry, lsr9⟩

theorem sameVisible_loadIndex (s : State) (q : Byte) (o : Operand) (v : Word) :
    SameVisible (if q &&& 0x01 = 0x01 then { s with xr1 := v } else { s with xr2 := v })
      ((s.enterOne q o).loadIndex q v) := by
  unfold State.loadIndex
  simp only [ibmBit_seven, decide_eq_true_eq]
  split <;> simp [SameVisible, State.enterOne, State.enter]

/-- Index register plus displacement, wrapping at 16 bits (R116, D14). -/
theorem add_displacement (x : Word) (d : Byte) : x + d.setWidth 16 = BitVec.ofNat 16 (x.toNat + d.toNat) := by
  apply BitVec.eq_of_toNat_eq
  simp

/-- Settles O46: the address of the operand goes to the register that Q bit 7 says. -/
theorem laLoadsEffectiveAddress : Obligations.LaLoadsEffectiveAddress := by
  intro q o s
  refine ⟨_, exec_instr _ _, completesOne_loadIndex s q o (s.address o), fun ra => byteAt_congr (by simp) (by simp) ra,
    ?_⟩
  cases o with
  | direct a => exact sameVisible_loadIndex s q _ a
  | xr1 d =>
    simp only [← add_displacement]
    exact sameVisible_loadIndex s q _ _
  | xr2 d =>
    simp only [← add_displacement]
    exact sameVisible_loadIndex s q _ _

end Sys2Proof.Machine
end

section
/-! PROOF. Fetch that stops: at an undefined op code, and on a fault at an instruction byte
(spec/30_encoding.md R128, R131, spec/60_exceptions.md R289, R292). -/

namespace Sys2Proof.Machine

variable {s t b u : State} {k n : Nat} {q op : Byte} {h : Header} {e : StopEvent} {m : Mode}

/-! ## A turn whose fetch stops -/

/-- Nothing is executed, and the end of the instruction frees the scratch registers only (R281, R299). -/
theorem step_of_fetch_stop (hh : s.host = []) (hc : s.clockRun = true) (hf : s.clearCompare.fetchInstr = .stop t)
    (ht : t.stopped.isSome = true) : step s = .next t.freeScratch := by
  have hend : t.endInstruction = t.freeScratch := by simp [State.endInstruction, ht]
  simp only [step, stepSystem, hh, if_pos hc, runInstruction, hf, hend]

/-- A state shows a program what it shows. -/
theorem SameVisible.refl (s : State) : SameVisible s s := ⟨rfl, rfl, rfl, rfl, rfl, rfl, rfl, rfl⟩

theorem codeByte_zero (s : State) : s.codeByte 0 = s.peek .i s.iar := by
  rw [State.codeByte, BitVec.add_zero]

/-! ## An undefined op code (R128) -/

/-- The stop comes once the op and Q bytes are fetched (R291). -/
theorem fetchInstr_undefined (hr : s.CodeReadable 2) (hh : headerOf (s.codeByte 0) = none) :
    ∃ u, s.fetchInstr = .stop (u.stopUndefined (s.codeByte 0)) ∧
      Fetching ((s.latchOp (s.codeByte 0)).latchQ (s.codeByte 1)) u 2 := by
  obtain ⟨u, hu, hfu⟩ := (Fetching.refl s).fetchByte hr (by decide)
  obtain ⟨v, hv, hfv⟩ := (hfu.latchOp (s.codeByte 0)).fetchByte hr (by decide)
  refine ⟨v.latchQ (s.codeByte 1), ?_, hfv.latchQ _⟩
  have hv : (u.latchOp (s.codeByte 0)).fetchByte = .ok (s.codeByte 1) v := hv
  unfold State.fetchInstr
  simp only [hu, hv, hh, Res.bind_ok]

/-- Settles O8: the state at that stop differs from the one before in the IAR and the sequencing. -/
theorem stepStopsAtUndefinedOp : Obligations.StepStopsAtUndefinedOp := by
  intro s hh hc hr hop
  rw [← codeByte_zero] at hop ⊢
  obtain ⟨u, hu, l8, l9, m, hit, rfl⟩ := fetchInstr_undefined (s := s.clearCompare) hr hop
  exact ⟨_, step_of_fetch_stop hh hc hu rfl, rfl, rfl, rfl, Bool.or_true _, BitVec.or_zero, SameVisible.refl _,
    .refl s, fun _ => rfl⟩

/-! ## A fault on an instruction byte (R131, R292) -/

/-- `r` stops on `e` with `k` bytes of `b` fetched. -/
def FetchFaults {α : Type} (b : State) (k : Nat) (e : StopEvent) (r : Res α) : Prop :=
  ∃ u, r = .stop (u.stop e) ∧ Fetching b u k

/-- What follows a fault is not done. -/
theorem FetchFaults.bind {α β : Type} {r : Res α} {f : α → State → Res β} (hf : FetchFaults b k e r) :
    FetchFaults b k e (r.bind f) := by
  obtain ⟨u, rfl, hu⟩ := hf
  exact ⟨u, rfl, hu⟩

/-- The fetch of a byte that cannot be read leaves the IAR at it. -/
theorem Fetching.fetchByte_faults (hf : Fetching b t k) (he : b.readCheck .i (b.iar + BitVec.ofNat 16 k) = .error e) :
    FetchFaults b k e t.fetchByte := by
  obtain ⟨l8, l9, m, hit, rfl⟩ := hf
  have same : SameChecks b { b with
      iar := b.iar + BitVec.ofNat 16 k, lsr8 := l8, lsr9 := l9, msar := m, compareHit := hit } := ⟨rfl, rfl, rfl⟩
  unfold State.fetchByte
  rw [readAt_error same he]
  exact ⟨_, rfl, l8, l9, _, hit, rfl⟩

/-- The operand 1 address that starts at byte `n` faults at its byte `k`. -/
theorem Fetching.fetchOperand1_faults (hf : Fetching b t n) (m : Mode) (hr : b.CodeReadable k)
    (he : b.readCheck .i (b.iar + BitVec.ofNat 16 k) = .error e) (hn : n ≤ k) (hk : k < n + m.length) :
    FetchFaults b k e (t.fetchOperand1 m) := by
  unfold State.fetchOperand1
  obtain rfl | hlt := Nat.eq_or_lt_of_le hn
  · exact (hf.fetchByte_faults he).bind
  · cases m <;> simp only [Mode.length] at hk
    case direct =>
      obtain rfl : k = n + 1 := by omega
      obtain ⟨u, hu, hfu⟩ := hf.fetchByte hr hlt
      simp only [hu, Res.bind_ok]
      exact ((hfu.setLsr8 _).fetchByte_faults he).bind
    all_goals omega

theorem Fetching.fetchOperand2_faults (hf : Fetching b t n) (m : Mode) (hr : b.CodeReadable k)
    (he : b.readCheck .i (b.iar + BitVec.ofNat 16 k) = .error e) (hn : n ≤ k) (hk : k < n + m.length) :
    FetchFaults b k e (t.fetchOperand2 m) := by
  unfold State.fetchOperand2
  obtain rfl | hlt := Nat.eq_or_lt_of_le hn
  · exact (hf.fetchByte_faults he).bind
  · cases m <;> simp only [Mode.length] at hk
    case direct =>
      obtain rfl : k = n + 1 := by omega
      obtain ⟨u, hu, hfu⟩ := hf.fetchByte hr hlt
      simp only [hu, Res.bind_ok]
      exact ((hfu.setLsr9 _).fetchByte_faults he).bind
    all_goals omega

/-- The ARR at a fault on byte `k`: the pointer that reads byte 3 of a direct `BC` that branches (R238 (b)). -/
def State.withFaultArr (s : State) (h : Header) (k : Nat) : State :=
  if h = .addr .bc .direct ∧ k = 3 then s.setArr (s.iar + 3) else s

/-- A fault after the Q-byte, at a byte that fetch reads (R131, R238). -/
theorem Fetching.fetchRest_faults (hf : Fetching b t 2) (q : Byte) (hr : b.CodeReadable k)
    (he : b.readCheck .i (b.iar + BitVec.ofNat 16 k) = .error e) (hn : 2 ≤ k) (hk : k < 2 + h.operandLength)
    (hread : ¬(h = .addr .bc .direct ∧ k = 3 ∧ condMet q b.psr = false)) :
    FetchFaults (b.withFaultArr h k) k e (t.fetchRest h q) := by
  unfold State.withFaultArr
  cases h with
  | two op m1 m2 =>
    simp only [Header.operandLength] at hk
    by_cases h1 : k < 2 + m1.length
    · exact (hf.fetchOperand1_faults m1 hr he hn h1).bind
    · obtain ⟨u, hu, hfu⟩ := hf.fetchOperand1 m1 hr (by omega)
      simp only [State.fetchRest, hu, Res.bind_ok]
      exact (hfu.fetchOperand2_faults m2 hr he (by omega) (by omega)).bind
  | one op m => exact hf.fetchOperand1_faults m hr he hn hk
  | cmd op =>
    obtain rfl : k = 2 := by simp only [Header.operandLength] at hk; omega
    exact (hf.fetchByte_faults he).bind
  | addr op m =>
    cases op with
    | la => exact hf.fetchOperand1_faults m hr he hn hk
    | bc =>
      cases m with
      | xr1 => exact hf.fetchOperand1_faults .xr1 hr he hn hk
      | xr2 => exact hf.fetchOperand1_faults .xr2 hr he hn hk
      | direct =>
        simp only [State.fetchRest, State.fetchBranch, hf.psr]
        obtain rfl | rfl : k = 2 ∨ k = 3 := by simp only [Header.operandLength, Mode.length] at hk; omega
        · rw [if_neg (by decide)]
          split <;> exact (hf.fetchByte_faults he).bind
        · have hc : condMet q b.psr = true := by simpa using hread
          obtain ⟨u, hu, hfu⟩ := hf.fetchByte hr (by decide)
          rw [if_pos (by decide), if_pos hc, hu, Res.bind_ok, show b.iar + 3 = u.iar from hfu.iar.symm]
          have located := (hfu.setLsr8 (join (b.codeByte 2) (lo u.lsr8))).setArr u.iar
          exact (located.fetchByte_faults he).bind.bind

/-- A fault on the op byte or the Q-byte. -/
theorem fetchInstr_faults_first (hr : s.CodeReadable k) (he : s.readCheck .i (s.iar + BitVec.ofNat 16 k) = .error e)
    (hk : k < 2) : FetchFaults (if k = 0 then s else s.latchOp (s.codeByte 0)) k e s.fetchInstr := by
  unfold State.fetchInstr
  obtain rfl | rfl : k = 0 ∨ k = 1 := by omega
  · exact ((Fetching.refl s).fetchByte_faults he).bind
  · obtain ⟨u, hu, hfu⟩ := (Fetching.refl s).fetchByte hr (by decide)
    simp only [hu, Res.bind_ok]
    exact ((hfu.latchOp (s.codeByte 0)).fetchByte_faults he).bind

/-- A fault on a byte after the Q-byte. -/
theorem fetchInstr_faults_rest (hr : s.CodeReadable k) (he : s.readCheck .i (s.iar + BitVec.ofNat 16 k) = .error e)
    (hh : headerOf (s.codeByte 0) = some h) (hn : 2 ≤ k) (hk : k < 2 + h.operandLength)
    (hread : ¬(h = .addr .bc .direct ∧ k = 3 ∧ condMet (s.codeByte 1) s.psr = false)) :
    FetchFaults (((s.latchOp (s.codeByte 0)).latchQ (s.codeByte 1)).withFaultArr h k) k e s.fetchInstr := by
  obtain ⟨u, hu, hfu⟩ := (Fetching.refl s).fetchByte hr (by omega)
  obtain ⟨v, hv, hfv⟩ := (hfu.latchOp (s.codeByte 0)).fetchByte hr (by omega)
  have hv : (u.latchOp (s.codeByte 0)).fetchByte = .ok (s.codeByte 1) v := hv
  unfold State.fetchInstr
  simp only [hu, hv, hh, Res.bind_ok]
  exact ((hfv.latchQ (s.codeByte 1)).fetchRest_faults (s.codeByte 1) hr he hn hk hread).bind

/-- What a program sees after a fault on byte `k`, where fetch has latched no more than the op byte, the Q-byte and
the ARR (R131, R292; log 18). -/
theorem step_of_fetchFaults {v : State} {a : Word} (hh : s.host = []) (hc : s.clockRun = true)
    (hf : FetchFaults v k e s.clearCompare.fetchInstr) (ha : v.arr = a)
    (hv : v = { s.clearCompare with
      opReg := v.opReg, lsr11Op := v.lsr11Op, lsr11Q := v.lsr11Q, qBackup := v.qBackup, qReg := v.qReg
      nonexecutable := v.nonexecutable, arr := v.arr }) :
    ∃ t, step s = .next t ∧ t.stopped = some e ∧ t.clockRun = false ∧ t.level5 = true ∧
      t.sb3 = s.sb3 ||| e.sb3Bits ∧ SameVisible { s with iar := s.iar + BitVec.ofNat 16 k, arr := a } t ∧
      SameControl s t ∧ SameStorage s t := by
  obtain ⟨u, hu, l8, l9, m, hit, rfl⟩ := hf
  refine ⟨_, step_of_fetch_stop hh hc hu rfl, rfl, rfl, rfl, ?_⟩
  rw [← ha, hv]
  exact ⟨rfl, SameVisible.refl _, .refl s, fun _ => rfl⟩

/-- Settles O9: by whether the byte is one of the first two or one of the operands. -/
theorem fetchFaultLeavesIarAtFailingByte : Obligations.FetchFaultLeavesIarAtFailingByte := by
  intro s k e hh hc hr he hk
  rw [← codeByte_zero] at hk ⊢
  by_cases hfirst : k < 2
  · refine step_of_fetchFaults hh hc (fetchInstr_faults_first (s := s.clearCompare) hr he hfirst) ?_ ?_
    · rw [if_neg fun h3 : k = 3 ∧ _ => by omega]
      split <;> rfl
    · split <;> rfl
  · obtain ⟨hdef, hlen, huntaken⟩ := hk.resolve_left hfirst
    obtain ⟨h, hhead⟩ := Option.isSome_iff_exists.mp hdef
    have hop := opByte_of_headerOf _ _ hhead
    rw [← hop, formatLength_opByte] at hlen
    rw [← hop, opByte_eq_C0, branches_iff] at huntaken
    refine step_of_fetchFaults hh hc (fetchInstr_faults_rest (s := s.clearCompare) hr he hhead (by omega) hlen ?_) ?_ ?_
    · rintro ⟨hbc, h3, hcond⟩
      exact huntaken ⟨h3, hbc, Bool.eq_false_iff.mp hcond⟩
    · simp only [← hop, opByte_eq_C0, State.withFaultArr, and_comm (a := k = 3)]
      split <;> rfl
    · unfold State.withFaultArr
      split <;> rfl

end Sys2Proof.Machine
end

section
/-! PROOF. `MVX`, `MVC` that completes, and `ST` (spec/41_data_control.md R190, R191, R202, R203). -/

namespace Sys2Proof.Machine

variable {s t u v : State} {q : Byte} {a1 a2 la : Word} {e : StopEvent} {k : Kind} {i n : Nat}

/-! ## Accesses of an instruction underway -/

/-- A read moves nothing but the MSAR and the compare (R37, R80). -/
theorem Underway.readAt_ok (h : Underway s v t q) (hr : s.canRead k la = true) :
    ∃ u, t.readAt k la = .ok (t.byteAt (s.target k la)) u ∧ Underway s v u q ∧ u.lsr8 = t.lsr8 ∧ u.lsr9 = t.lsr9 ∧
      u.carry = t.carry ∧ ∀ ra, u.byteAt ra = t.byteAt ra :=
  ⟨_, Machine.readAt_ok h.checks hr, h.update _ _ _ _ _ _ _ _ _, rfl, rfl, rfl, fun _ => rfl⟩

/-- A stop before anything is stored (R281, R292). -/
theorem Underway.stopsUnchanged (h : Underway s s t q) (hb : ∀ ra, t.byteAt ra = s.byteAt ra) (la : Word)
    (e : StopEvent) : StopsUnchanged s ((t.setMsar la).stop e) e := by
  obtain ⟨stopped, visible, control⟩ := h.stop la e
  exact ⟨stopped, visible, control, hb⟩

/-- A one-address instruction starts underway, with the operand address in LSR 8 (R24). -/
theorem underway_enterOne (s : State) (q : Byte) (o : Operand) (hw : Memory.wf s.mem = true) :
    Underway s s (s.enterOne q o) q := by
  obtain ⟨⟨control, nostop, seq⟩, -, -⟩ := completesOne_enterOne s q o
  exact ⟨control, nostop, seq, SameVisible.refl s, rfl, hw⟩

/-! ## `MVX` (R190) -/

theorem zoned_zone_left : ∀ (x : Byte) (n : BitVec 4), zoned (zone x) n = (x &&& (0xF0 : Byte)) ||| (n.setWidth 8 : Byte) := by
  decide +kernel

theorem zoned_num_right : ∀ (n : BitVec 4) (x : Byte), zoned n (num x) = ((n.setWidth 8 : Byte) <<< 4) ||| (x &&& 0x0F) := by
  decide +kernel

theorem setWidth_num : ∀ y : Byte, (num y).setWidth 8 = y &&& 0x0F := by decide +kernel

theorem setWidth_zone : ∀ y : Byte, (zone y).setWidth 8 = y >>> 4 := by decide +kernel

/-- The byte `MVX` stores, in masks and shifts (R123). -/
theorem movedHalf_eq (q x y : Byte) :
    movedHalf q x y =
      let half := if q &&& 0x01 = 0x01 then y &&& 0x0F else y >>> 4
      if q &&& 0x02 = 0x02 then (x &&& 0xF0) ||| half else (half <<< 4) ||| (x &&& 0x0F) := by
  simp only [movedHalf, ibmBit_six, ibmBit_seven, decide_eq_true_eq, zoned_zone_left, zoned_num_right]
  simp only [apply_ite (BitVec.setWidth 8), setWidth_num, setWidth_zone]

/-- `MVX` that can make its three accesses (R190). -/
theorem mvxRun_ok (h : Underway s s t q) (h8 : t.lsr8 = a1) (h9 : t.lsr9 = a2)
    (hb : ∀ ra, t.byteAt ra = s.byteAt ra) (hr : s.canRead .op2 a2 = true) (hw : s.canWrite .op1 a1 = true) :
    ∃ u, mvxRun q t = .ok () u ∧ Underway s s u q ∧ u.carry = t.carry ∧
      StorageWith s u (s.target .op1 a1) (movedHalf q (s.peek .op1 a1) (s.peek .op2 a2)) := by
  subst h8 h9
  obtain ⟨u, hu, under, h8, -, hc, hbu⟩ := h.readAt_ok hr
  obtain ⟨v, hv, under, h8v, -, hcv, hbv⟩ := readOp1_ok under (h8 ▸ canRead_of_canWrite hw)
  obtain ⟨w, hx, under, -, -, hcw, hbw⟩ :=
    writeOp1_ok under (movedHalf q (s.peek .op1 t.lsr8) (s.peek .op2 t.lsr9)) (by rw [h8v, h8]; exact hw)
  rw [h8, hbu, hb] at hv
  rw [hb] at hu
  have stored : v.writeOp1 (movedHalf q (s.byteAt (s.target .op1 t.lsr8)) (s.byteAt (s.target .op2 t.lsr9))) = .ok () w :=
    hx
  refine ⟨w.endCycle, by simp only [mvxRun, hu, hv, stored, Res.bind_ok], under.endCycle, hcw.trans (hcv.trans hc),
    fun ra => ?_⟩
  have := hbw ra
  rw [h8v, h8, hbv, hbu, hb] at this
  exact this

/-- `MVX` whose operand 2 cannot be read, or then its operand 1 not used (R80, R190). -/
theorem mvxRun_faults (h : Underway s s t q) (h8 : t.lsr8 = a1) (h9 : t.lsr9 = a2)
    (hb : ∀ ra, t.byteAt ra = s.byteAt ra) (hf : s.MoveFaults a1 a2 e) :
    ∃ u, mvxRun q t = .stop u ∧ StopsUnchanged s u e := by
  subst h8 h9
  unfold mvxRun
  obtain hr | ⟨hr, hw⟩ := hf
  · rw [readAt_error h.checks hr]
    exact ⟨_, rfl, h.stopsUnchanged hb _ e⟩
  · obtain ⟨u, hu, under, h8, -, -, hbu⟩ := h.readAt_ok hr
    have hbu ra : u.byteAt ra = s.byteAt ra := (hbu ra).trans (hb ra)
    rw [← h8] at hw
    simp only [hu, Res.bind_ok]
    obtain hr | hr := canRead_or_readCheck hw
    · obtain ⟨v, hv, under, h8v, -, -, hbv⟩ := readOp1_ok under hr
      rw [← h8v] at hw
      simp only [hv, Res.bind_ok]
      unfold State.writeOp1
      rw [writeAt_error under.checks hw]
      exact ⟨_, rfl, under.stopsUnchanged (fun ra => (hbv ra).trans (hbu ra)) _ e⟩
    · unfold State.readOp1
      rw [readAt_error under.checks hr]
      exact ⟨_, rfl, under.stopsUnchanged hbu _ e⟩

/-- Settles O37: `MVX` reads, reads and writes once, from the operand addresses. -/
theorem mvxMovesHalf : Obligations.MvxMovesHalf := by
  intro q o1 o2 s hm
  have entered := underway_enterTwo s q o1 o2 hm
  have hexec {r : Res Unit} (hr : mvxRun q (s.enterTwo q o1 o2) = r) :
      exec (Form.two .mvx q o1 o2).instr s = .next r.state := by
    rw [exec_instr]
    exact congrArg Res.outcome hr
  refine ⟨fun hr hw => ?_, fun e hf => ?_⟩
  · obtain ⟨u, hu, under, hc, hb⟩ := mvxRun_ok entered rfl rfl (fun _ => rfl) hr hw
    rw [movedHalf_eq] at hb
    exact ⟨u, hexec hu, under.completes, hc, under.visible, hb⟩
  · obtain ⟨u, hu, stops⟩ := mvxRun_faults entered rfl rfl (fun _ => rfl) hf
    exact ⟨u, hexec hu, stops⟩

/-! ## `MVC` that completes (R191) -/

theorem readAt_carry (s : State) (k : Kind) (la : Word) : (s.readAt k la).state.carry = s.carry := by
  obtain ⟨-, h⟩ | ⟨_, -, h⟩ := readAt_cases s k la <;> rw [h] <;> rfl

theorem writeAt_carry (s : State) (k : Kind) (la : Word) (b : Byte) : (s.writeAt k la b).state.carry = s.carry := by
  obtain ⟨-, h⟩ | ⟨_, -, h⟩ := writeAt_cases s k la b <;> rw [h] <;> rfl

theorem takeOp2_carry (s : State) : s.takeOp2.state.carry = s.carry :=
  Res.bind_state (P := fun u => u.carry = s.carry) (readAt_carry _ _ _) fun _ _ h => h

theorem storeOp1_carry (s : State) (b : Byte) : (s.storeOp1 b).state.carry = s.carry :=
  Res.bind_state (P := fun u => u.carry = s.carry) (writeAt_carry _ _ _ _) fun _ _ h => h

/-- A byte cycle of `MVC` leaves the carry trigger alone (log 67). -/
theorem mvcCycle_carry (i : Nat) (a : Unit) (s : State) : (mvcCycle i a s).state.carry = s.carry :=
  Res.bind_state (P := fun u => u.carry = s.carry) ((takeOp2_carry _).trans (countQ_leaves s).2.2.1) fun _ u h =>
    Res.bind_state (P := fun u => u.carry = s.carry) ((storeOp1_carry u _).trans h) fun _ _ h => h

/-- Settles O38: all byte cycles complete. -/
theorem mvcCopiesByteSerially : Obligations.MvcCopiesByteSerially := by
  intro q o1 o2 s hm hread hwrite
  obtain ⟨_, t, ht, copied⟩ := loop_ok (inv := fun i _ u => Copying s q (s.address o1) (s.address o2) i u)
    (body := mvcCycle) (fieldLength q) 0 ()
    (fun i a u _ hi hu => by
      have hi : i < q.toNat + 1 := by unfold fieldLength at hi; omega
      exact hu.cycle (hread i hi) (hwrite i hi) a)
    (copying_enterTwo hm q o1 o2)
  have hexec : exec (Form.two .mvc q o1 o2).instr s = .next t := by
    rw [exec_instr]
    exact congrArg Res.outcome ht
  have carry := loop_state (P := fun u => u.carry = s.carry) (fun i a u hu => (mvcCycle_carry i a u).trans hu)
    (fieldLength q) 0 () (s := s.enterTwo q o1 o2) rfl
  rw [ht] at carry
  refine ⟨t, hexec, copied.underway.completes, carry, copied.underway.visible, fun ra => ?_⟩
  have := copied.storage ra
  rwa [Nat.zero_add] at this

/-! ## `ST` (R202, R203) -/

theorem storedLow_congr (h : SameVisible s t) (r : Reg) : t.storedLow r = s.storedLow r := by
  obtain ⟨iar, xr1, xr2, arr, psr, -⟩ := h
  cases r <;> simp only [State.storedLow, State.statusByte, iar, xr1, xr2, arr, psr]

theorem storedHigh_congr (h : SameVisible s t) (hq : t.qBackup = s.qBackup) (r : Reg) :
    t.storedHigh r = s.storedHigh r := by
  obtain ⟨iar, xr1, xr2, arr, -⟩ := h
  cases r <;> simp only [State.storedHigh, iar, xr1, xr2, arr, hq]

/-- The register a Q-byte selects and its two bytes; with the PSR selected the high one is the Q-byte (R124, R202,
R203, D4). -/
theorem selected_eq_some {x : Word} (hx : s.selected q = some x) :
    ∃ r, selectOf q = .reg r ∧ s.storedLow r = x.extractLsb' 0 8 ∧
      { s with qBackup := q }.storedHigh r = x.extractLsb' 8 8 := by
  unfold State.selected at hx
  split at hx <;> cases hx
  case h_1 => exact ⟨.xr1, rfl, rfl, rfl⟩
  case h_2 => exact ⟨.xr2, rfl, rfl, rfl⟩
  case h_3 => exact ⟨.psr, rfl, (lo_join _ _).symm, (hi_join _ _).symm⟩
  case h_4 => exact ⟨.arr, rfl, rfl, rfl⟩
  case h_5 | h_6 => exact ⟨.iar, rfl, rfl, rfl⟩

/-- What `ST` stores is what the register held before it (R202). -/
theorem Underway.stored {r : Reg} (h : Underway s s t q) :
    t.storedLow r = s.storedLow r ∧ t.storedHigh r = { s with qBackup := q }.storedHigh r := by
  obtain ⟨-, -, -, hq, -⟩ := h.seq
  exact ⟨storedLow_congr h.visible r, storedHigh_congr (s := { s with qBackup := q }) h.visible hq r⟩

/-- The first cycle of `ST` stores the low byte and steps LSR 8 down (R202). -/
theorem storeReg_first {r : Reg} (h : Underway s s t q) (h8 : t.lsr8 = a1) (hb : ∀ ra, t.byteAt ra = s.byteAt ra)
    (hw : s.canWrite .op1 a1 = true) :
    ∃ u, t.storeOp1 (t.storedLow r) = .ok () u ∧ Underway s s u.endCycle q ∧ u.lsr8 = a1 - 1 ∧ u.lsr9 = t.lsr9 ∧
      u.carry = t.carry ∧ StorageWith s u (s.target .op1 a1) (s.storedLow r) := by
  subst h8
  obtain ⟨u, hu, under, h8, h9, hc, hbu⟩ := storeOp1_ok h (t.storedLow r) hw
  refine ⟨u, hu, under.endCycle, h8, h9, hc, fun ra => ?_⟩
  rw [hbu, hb, h.stored.1]

/-- `ST` that can store both bytes (R202). -/
theorem storeReg_ok {r : Reg} (h : Underway s s t q) (h8 : t.lsr8 = a1) (hb : ∀ ra, t.byteAt ra = s.byteAt ra)
    (hw : s.canWrite .op1 a1 = true) (hw' : s.canWrite .op1 (a1 - 1) = true) :
    ∃ u, storeReg r t = .ok () u ∧ Underway s s u q ∧ u.lsr9 = t.lsr9 ∧ u.carry = t.carry ∧
      ∀ ra, u.byteAt ra =
        if ra = s.target .op1 (a1 - 1) then { s with qBackup := q }.storedHigh r
        else if ra = s.target .op1 a1 then s.storedLow r else s.byteAt ra := by
  obtain ⟨u, hu, under, h8u, h9, hc, hbu⟩ := storeReg_first (r := r) h h8 hb hw
  obtain ⟨w, hw, underw, -, h9w, hcw, hbw⟩ :=
    storeOp1_ok under (u.storedHigh r) (by rw [State.endCycle_lsr8, h8u]; exact hw')
  refine ⟨w, by simp only [storeReg, hu, hw, Res.bind_ok], underw, h9w.trans h9, hcw.trans hc, fun ra => ?_⟩
  rw [hbw, State.endCycle_lsr8, h8u, ← under.stored.2, ← hbu ra]
  rfl

/-- Settles O41: the two stores of `ST`, and a fault on either. -/
theorem stStoresSelectedRegister : Obligations.StStoresSelectedRegister := by
  intro q o s x hm hx
  obtain ⟨r, hr, hlow, hhigh⟩ := selected_eq_some hx
  have entered := underway_enterOne s q o hm
  have hexec {res : Res Unit} (h : storeReg r (s.enterOne q o) = res) :
      exec (Form.one .st q o).instr s = .next res.state := by
    rw [exec_instr, ← h]
    exact selectForm_reg (op := .st) rfl hr
  refine ⟨fun hw hw' => ?_, fun e hw he => ?_, fun e he => ?_⟩
  · obtain ⟨u, hu, under, h9, hc, hb⟩ := storeReg_ok (r := r) entered rfl (fun _ => rfl) hw hw'
    rw [hlow, hhigh] at hb
    exact ⟨u, hexec hu, ⟨under.completes, hc, h9⟩, under.visible, hb⟩
  · obtain ⟨u, hu, under, h8, -, -, hb⟩ := storeReg_first (r := r) entered rfl (fun _ => rfl) hw
    rw [hlow] at hb
    have hs := storeOp1_error under (u.storedHigh r) (e := e) (by rw [State.endCycle_lsr8, h8]; exact he)
    obtain ⟨stopped, visible, control⟩ := under.stop u.endCycle.lsr8 e
    have hstop : storeReg r (s.enterOne q o) = .stop ((u.endCycle.setMsar u.endCycle.lsr8).stop e) := by
      rw [storeReg, hu, Res.bind_ok, hs, Res.bind_stop]
    exact ⟨_, hexec hstop, stopped, visible, control, hb⟩
  · have hs := storeOp1_error entered ((s.enterOne q o).storedLow r) he
    have hstop : storeReg r (s.enterOne q o) =
        .stop (((s.enterOne q o).setMsar (s.enterOne q o).lsr8).stop e) := by rw [storeReg, hs, Res.bind_stop]
    exact ⟨_, hexec hstop, entered.stopsUnchanged (fun _ => rfl) _ e⟩

end Sys2Proof.Machine
end

section
/-! PROOF. `L` and `A` with a register selected (spec/40_arithmetic.md R165, spec/41_data_control.md R205). -/

namespace Sys2Proof.Machine

variable {s t u x : State} {q : Byte} {o : Operand} {r : Reg} {a1 v : Word} {e : StopEvent}

/-! ## An instruction that stores nothing -/

/-- `t` is reached inside an instruction with Q-byte `q` that started in `s` and stores nothing: its registers are
those of `u`, where LSR 8, the MSAR, 'first cycle' and the compare may differ. -/
structure Reading (s : State) (q : Byte) (u t : State) : Prop where
  completes : Completes s u q
  pmr : u.pmr = s.pmr
  storage : SameStorage s u
  frame : ∃ l8 m f hit, t = { u with lsr8 := l8, msar := m, firstCycle := f, compareHit := hit }

theorem reading_enterOne (s : State) (q : Byte) (o : Operand) :
    Reading s q (s.enterOne q o) (s.enterOne q o) :=
  ⟨(completesOne_enterOne s q o).1, rfl, fun _ => rfl, _, _, _, _, rfl⟩

theorem Reading.checks (h : Reading s q u t) : SameChecks s t := by
  obtain ⟨⟨⟨atr, -, -, -, -, -, -, -, -, -, -, -, -, cfg, -⟩, -⟩, pmr, -, l8, m, f, hit, rfl⟩ := h
  exact ⟨pmr, atr, cfg⟩

/-- What has been completed when the last cycle ends. -/
theorem Reading.completed (h : Reading s q u t) : Completes s t q ∧ SameStorage s t ∧ t.carry = u.carry ∧ t.lsr9 = u.lsr9 := by
  obtain ⟨completes, -, storage, l8, m, f, hit, rfl⟩ := h
  exact ⟨completes, storage, rfl, rfl⟩

/-- What a stop shows beside the registers (R281, R283). -/
theorem Reading.stop (h : Reading s q u t) (e : StopEvent) :
    StoppedOn s (t.stop e) e ∧ SameControl s (t.stop e) ∧ SameStorage s (t.stop e) ∧ (t.stop e).carry = u.carry := by
  obtain ⟨⟨control, ⟨-, -, -, sb3, nonexecutable, -⟩, -⟩, -, storage, l8, m, f, hit, rfl⟩ := h
  exact ⟨⟨rfl, rfl, rfl, congrArg (· ||| e.sb3Bits) sb3, congrArg (· || e.setsNonexecutable) nonexecutable⟩, control,
    storage, rfl⟩

/-- A program sees the registers of `u`, stopped or not. -/
theorem Reading.visible (h : Reading s q u t) (hx : SameVisible x u) :
    SameVisible x t ∧ ∀ e, SameVisible x (t.stop e) := by
  obtain ⟨-, -, -, l8, m, f, hit, rfl⟩ := h
  exact ⟨hx, fun _ => hx⟩

theorem Reading.endCycle (h : Reading s q u t) : Reading s q u t.endCycle := by
  obtain ⟨completes, pmr, storage, l8, m, f, hit, rfl⟩ := h
  exact ⟨completes, pmr, storage, _, _, _, _, rfl⟩

theorem Reading.loadLow (h : Reading s q u t) (r : Reg) (b : Byte) : Reading s q (u.loadLow r b) (t.loadLow r b) := by
  obtain ⟨completes, pmr, storage, l8, m, f, hit, rfl⟩ := h
  cases r <;> exact ⟨completes, pmr, storage, _, _, _, _, rfl⟩

theorem Reading.loadHigh (h : Reading s q u t) (r : Reg) (b : Byte) : Reading s q (u.loadHigh r b) (t.loadHigh r b) := by
  obtain ⟨completes, pmr, storage, l8, m, f, hit, rfl⟩ := h
  cases r <;> exact ⟨completes, pmr, storage, _, _, _, _, rfl⟩

theorem Reading.setCarry (h : Reading s q u t) (c : Bool) : Reading s q (u.setCarry c) (t.setCarry c) := by
  obtain ⟨completes, pmr, storage, l8, m, f, hit, rfl⟩ := h
  exact ⟨completes, pmr, storage, _, _, _, _, rfl⟩

theorem Reading.setPsr (h : Reading s q u t) (p : Byte) : Reading s q (u.setPsr p) (t.setPsr p) := by
  obtain ⟨completes, pmr, storage, l8, m, f, hit, rfl⟩ := h
  exact ⟨completes, pmr, storage, _, _, _, _, rfl⟩

theorem Reading.takeOp1_ok (h : Reading s q u t) (h8 : t.lsr8 = a1) (hr : s.canRead .op1 a1 = true) :
    ∃ w, t.takeOp1 = .ok (s.peek .op1 a1) w ∧ Reading s q u w ∧ w.lsr8 = a1 - 1 := by
  subst h8
  unfold State.takeOp1 State.readOp1
  rw [readAt_ok h.checks hr]
  obtain ⟨completes, pmr, storage, l8, m, f, hit, rfl⟩ := h
  exact ⟨_, congrArg (Res.ok · _) (storage _), ⟨completes, pmr, storage, _, _, _, _, rfl⟩, rfl⟩

theorem Reading.takeOp1_error (h : Reading s q u t) (h8 : t.lsr8 = a1) (hr : s.readCheck .op1 a1 = .error e) :
    ∃ w, t.takeOp1 = .stop (w.stop e) ∧ Reading s q u w := by
  subst h8
  unfold State.takeOp1 State.readOp1
  rw [readAt_error h.checks hr]
  obtain ⟨completes, pmr, storage, l8, m, f, hit, rfl⟩ := h
  exact ⟨_, rfl, completes, pmr, storage, _, _, _, _, rfl⟩

/-- A first read that fails stops the instruction with nothing changed (R292). -/
theorem stopsUnchanged_of_takeOp1 (he : s.readCheck .op1 (s.address o) = .error e) :
    ∃ w, (s.enterOne q o).takeOp1 = .stop w ∧ StopsUnchanged s w e := by
  obtain ⟨w, hw, reading⟩ := (reading_enterOne s q o).takeOp1_error rfl he
  obtain ⟨stopped, control, storage, -⟩ := reading.stop e
  exact ⟨_, hw, stopped, (reading.visible (SameVisible.refl s)).2 e, control, storage⟩

/-! ## The bytes of a register -/

theorem withHigh_withLow (w : Word) (h l : Byte) : withHigh (withLow w l) h = h ++ l := by
  unfold withHigh withLow
  rw [lo_join]
  rfl

/-- Both bytes of a local storage register loaded (R124, R205). -/
theorem sameVisible_loaded {h l : Byte} (hr : selectOf q = .reg r) (hx : s.withSelected q (h ++ l) = some x) :
    SameVisible x (((s.enterOne q o).loadLow r l).loadHigh r h) := by
  obtain ⟨rfl, rfl⟩ | ⟨rfl, rfl⟩ | ⟨rfl, rfl⟩ | ⟨rfl, rfl⟩ | ⟨rfl | rfl, rfl⟩ := selectOf_eq_reg hr <;> cases hx <;>
    simp [SameVisible, State.loadLow, State.loadHigh, withHigh_withLow, State.enterOne, State.enter]

/-- Only the low byte of a local storage register loaded (D15). -/
theorem sameVisible_loadedLow {l : Byte} (hr : selectOf q = .reg r) (hv : s.selected q = some v)
    (hx : s.withSelected q (v.extractLsb' 8 8 ++ l) = some x) : SameVisible x ((s.enterOne q o).loadLow r l) := by
  obtain ⟨rfl, rfl⟩ | ⟨rfl, rfl⟩ | ⟨rfl, rfl⟩ | ⟨rfl, rfl⟩ | ⟨rfl | rfl, rfl⟩ := selectOf_eq_reg hr <;> cases hv <;>
    cases hx <;> exact SameVisible.refl _

/-! ## `L` (R205) -/

/-- `L` of the PSR, Equal over Low over High (R205). -/
theorem loadedPsr_eq : ∀ b : Byte,
    loadedPsr b = (b &&& 0x38) |||
      (if b &&& 0x01 = 0x01 then 0x01 else if b &&& 0x02 = 0x02 then 0x02 else b &&& 0x04) := by
  decide +kernel

theorem Reading.loadReg_ok (h : Reading s q u t) (h8 : t.lsr8 = a1) (r : Reg) (hr : s.canRead .op1 a1 = true)
    (hr' : s.canRead .op1 (a1 - 1) = true) :
    ∃ w, loadReg r t = .ok () w ∧
      Reading s q ((u.loadLow r (s.peek .op1 a1)).loadHigh r (s.peek .op1 (a1 - 1))) w := by
  obtain ⟨w, hw, reading, h8⟩ := h.takeOp1_ok h8 hr
  obtain ⟨y, hy, reading, -⟩ := (reading.loadLow r (s.peek .op1 a1)).endCycle.takeOp1_ok (by simpa using h8) hr'
  exact ⟨_, by simp only [loadReg, hw, hy, Res.bind_ok], reading.loadHigh r _⟩

theorem Reading.loadReg_second_faults (h : Reading s q u t) (h8 : t.lsr8 = a1) (r : Reg)
    (hr : s.canRead .op1 a1 = true) (he : s.readCheck .op1 (a1 - 1) = .error e) :
    ∃ w, loadReg r t = .stop (w.stop e) ∧ Reading s q (u.loadLow r (s.peek .op1 a1)) w := by
  obtain ⟨w, hw, reading, h8⟩ := h.takeOp1_ok h8 hr
  obtain ⟨y, hy, reading⟩ := (reading.loadLow r (s.peek .op1 a1)).endCycle.takeOp1_error (by simpa using h8) he
  exact ⟨y, by simp only [loadReg, hw, hy, Res.bind_ok, Res.bind_stop], reading⟩

/-- Settles O42: the two reads of `L`, and a fault on either. -/
theorem lLoadsSelectedRegister : Obligations.LLoadsSelectedRegister := by
  intro q o s v hv
  obtain ⟨r, hr, -, -⟩ := selected_eq_some hv
  have entered := reading_enterOne s q o
  have hexec {res : Res Unit} (h : loadReg r (s.enterOne q o) = res) :
      exec (Form.one .l q o).instr s = .next res.state := by
    rw [exec_instr, ← h]
    exact selectForm_reg (op := .l) rfl hr
  simp only
  rw [← loadedPsr_eq]
  refine ⟨fun h0 h1 => ?_, fun e h0 he => ?_, fun e he => ?_⟩
  · obtain ⟨w, hw, reading⟩ := entered.loadReg_ok rfl r h0 h1
    obtain ⟨completes, storage, carry, lsr9⟩ := reading.completed
    refine ⟨w, hexec hw, ⟨completes, carry.trans (by simp), lsr9.trans (by simp)⟩, storage,
      fun x hx => (reading.visible (sameVisible_loaded hr hx)).1, ?_⟩
    rintro rfl
    cases hr
    exact (reading.visible (SameVisible.refl _)).1
  · obtain ⟨w, hw, reading⟩ := entered.loadReg_second_faults rfl r h0 he
    obtain ⟨stopped, control, storage, -⟩ := reading.stop e
    refine ⟨_, hexec hw, stopped, control, storage,
      fun x hx => (reading.visible (sameVisible_loadedLow hr hv hx)).2 e, ?_⟩
    rintro rfl
    cases hr
    exact (reading.visible (SameVisible.refl _)).2 e
  · obtain ⟨w, hw, stops⟩ := stopsUnchanged_of_takeOp1 (q := q) he
    exact ⟨w, hexec (res := .stop w) (by rw [loadReg, hw, Res.bind_stop]), stops⟩

/-! ## `A` (R165) -/

/-- The sum of two words, byte by byte with the carry handed on. -/
theorem add_bytes (v : Word) (h l : Byte) :
    (addBytes (hi v) h (carryOut (lo v) l false) ++ addBytes (lo v) l false : Word) = v + (h ++ l) ∧
      carryOut (hi v) h (carryOut (lo v) l false) = decide (0x10000 ≤ v.toNat + (h ++ l : Word).toNat) := by
  have append (a b : Byte) : (a ++ b : Word).toNat = a.toNat * 256 + b.toNat := by
    rw [BitVec.toNat_append, ← Nat.shiftLeft_add_eq_or_of_lt b.isLt, Nat.shiftLeft_eq]
  have hv : v.toNat = (hi v).toNat * 256 + (lo v).toNat := by rw [← append]; exact congrArg _ (join_hi_lo v).symm
  have := (hi v).isLt
  have := (lo v).isLt
  have := h.isLt
  have := l.isLt
  refine ⟨BitVec.eq_of_toNat_eq ?_, ?_⟩
  · rw [append, BitVec.toNat_add, append, hv]
    by_cases hc : 256 ≤ (lo v).toNat + l.toNat <;> simp [addBytes, carryOut, hc] <;> omega
  · rw [append, hv]
    by_cases hc : 256 ≤ (lo v).toNat + l.toNat <;> simp [carryOut, hc] <;> omega

/-- The sum of two bytes without a carry in. -/
theorem addBytes_false (a b : Byte) : addBytes a b false = a + b := by
  apply BitVec.eq_of_toNat_eq
  simp [addBytes]

theorem carryOut_false (a b : Byte) : carryOut a b false = decide (0x100 ≤ a.toNat + b.toNat) := rfl

/-- The PSR after `A`, in the masks of the obligations (R165). -/
theorem setSum_eq : ∀ p nz c, setSum p nz c = withSum p (!nz) c := by decide +kernel

/-- The first cycle of `A`: the low sum and its carry (R165). -/
def State.addedLow (u : State) (r : Reg) (l : Byte) : State :=
  (u.loadLow r (addBytes (u.storedLow r) l false)).setCarry (carryOut (u.storedLow r) l false)

theorem Reading.storedLow (h : Reading s q u t) (r : Reg) : t.storedLow r = u.storedLow r := by
  obtain ⟨-, -, -, l8, m, f, hit, rfl⟩ := h
  cases r <;> rfl

theorem Reading.storedHigh (h : Reading s q u t) (r : Reg) : t.storedHigh r = u.storedHigh r := by
  obtain ⟨-, -, -, l8, m, f, hit, rfl⟩ := h
  cases r <;> rfl

/-- The first cycle leaves the high byte, which the second adds (R165). -/
theorem addedLow_leaves (hr : r ≠ .psr) (u : State) (l : Byte) :
    (u.addedLow r l).storedHigh r = u.storedHigh r ∧ (u.addedLow r l).psr = u.psr := by
  cases r
  case psr => exact absurd rfl hr
  all_goals exact ⟨hi_join _ _, rfl⟩

/-- The second cycle of `A`: the high sum, the carry and the PSR (R165). -/
def State.added (u : State) (r : Reg) (h l : Byte) : State :=
  let c := carryOut (u.storedHigh r) h (carryOut (u.storedLow r) l false)
  let high := addBytes (u.storedHigh r) h (carryOut (u.storedLow r) l false)
  (((u.addedLow r l).loadHigh r high).setCarry c).setPsr
    (setSum u.psr (join high (addBytes (u.storedLow r) l false) != 0) c)

theorem Reading.addToLsr_first (h : Reading s q u t) (h8 : t.lsr8 = a1) (r : Reg) (hr : s.canRead .op1 a1 = true) :
    ∃ w, t.takeOp1 = .ok (s.peek .op1 a1) w ∧
      Reading s q (u.addedLow r (s.peek .op1 a1))
        ((w.loadLow r (addBytes (w.storedLow r) (s.peek .op1 a1) false)).setCarry
          (carryOut (w.storedLow r) (s.peek .op1 a1) false)).endCycle ∧
      w.storedLow r = u.storedLow r ∧ w.lsr8 = a1 - 1 := by
  obtain ⟨w, hw, reading, h8⟩ := h.takeOp1_ok h8 hr
  have low := reading.storedLow r
  refine ⟨w, hw, ?_, low, h8⟩
  rw [low]
  exact ((reading.loadLow r _).setCarry _).endCycle

theorem Reading.addToLsr_ok (h : Reading s q u t) (h8 : t.lsr8 = a1) (hp : r ≠ .psr) (hr : s.canRead .op1 a1 = true)
    (hr' : s.canRead .op1 (a1 - 1) = true) :
    ∃ w, addToLsr r t = .ok () w ∧ Reading s q (u.added r (s.peek .op1 (a1 - 1)) (s.peek .op1 a1)) w := by
  obtain ⟨w, hw, reading, low, h8⟩ := h.addToLsr_first h8 r hr
  obtain ⟨y, hy, reading, -⟩ := reading.takeOp1_ok (by simpa using h8) hr'
  obtain ⟨high, psr⟩ := addedLow_leaves hp u (s.peek .op1 a1)
  have same : y.storedHigh r = u.storedHigh r ∧ y.psr = u.psr := by
    refine ⟨(reading.storedHigh r).trans high, ?_⟩
    obtain ⟨-, -, -, l8, m, f, hit, rfl⟩ := reading
    exact psr
  have kept b c : ((y.loadHigh r b).setCarry c).psr = u.psr := by simp [same.2]
  rw [low] at hy
  refine ⟨_, ?_, ((reading.loadHigh r _).setCarry _).setPsr _⟩
  simp only [addToLsr, hw, low, hy, same.1, kept, Res.bind_ok]

theorem Reading.addToLsr_second_faults (h : Reading s q u t) (h8 : t.lsr8 = a1) (r : Reg)
    (hr : s.canRead .op1 a1 = true) (he : s.readCheck .op1 (a1 - 1) = .error e) :
    ∃ w, addToLsr r t = .stop (w.stop e) ∧ Reading s q (u.addedLow r (s.peek .op1 a1)) w := by
  obtain ⟨w, hw, reading, -, h8⟩ := h.addToLsr_first h8 r hr
  obtain ⟨y, hy, reading⟩ := reading.takeOp1_error (by simpa using h8) he
  exact ⟨y, by simp only [addToLsr, hw, hy, Res.bind_ok, Res.bind_stop], reading⟩

/-- `A` with a local storage register selected leaves its sum there and the conditions in the PSR (R165). -/
theorem sameVisible_added {h l : Byte} (hr : selectOf q = .reg r) (hp : r ≠ .psr)
    (hlow : s.storedLow r = v.extractLsb' 0 8) (hhigh : { s with qBackup := q }.storedHigh r = v.extractLsb' 8 8)
    (hx : s.withSelected q (v + (h ++ l)) = some x) :
    ((s.enterOne q o).added r h l).carry = decide (0x10000 ≤ v.toNat + (h ++ l : Word).toNat) ∧
      SameVisible
        { x with psr := withSum s.psr (v + (h ++ l) == 0) (decide (0x10000 ≤ v.toNat + (h ++ l : Word).toNat)) }
        ((s.enterOne q o).added r h l) := by
  obtain ⟨sum, carry⟩ := add_bytes v h l
  have low : (s.enterOne q o).storedLow r = lo v := (storedLow_congr (SameVisible.refl s) r).trans hlow
  have high : (s.enterOne q o).storedHigh r = hi v :=
    (storedHigh_congr (s := { s with qBackup := q }) (SameVisible.refl _) rfl r).trans hhigh
  simp only [State.added, State.addedLow, low, high, carry, setSum_eq]
  refine ⟨rfl, ?_⟩
  have psr : withSum (s.enterOne q o).psr
      (!(join (addBytes (hi v) h (carryOut (lo v) l false)) (addBytes (lo v) l false) != 0)) =
      withSum s.psr (v + (h ++ l) == 0) := by
    rw [← sum, bne, Bool.not_not]
    rfl
  rw [psr]
  rw [← sum] at hx
  obtain ⟨iar, xr1, xr2, arr, -, pmr, lcrr, psrLsr⟩ := sameVisible_loaded (o := o) hr hx
  cases r
  case psr => exact absurd rfl hp
  all_goals exact ⟨iar, xr1, xr2, arr, rfl, pmr, lcrr, psrLsr⟩

/-- Settles O43: the two cycles of `A`, and a fault on either read. -/
theorem aAddsToSelectedRegister : Obligations.AAddsToSelectedRegister := by
  intro q o s v hq hv
  obtain ⟨r, hr, hlow, hhigh⟩ := selected_eq_some hv
  have hp : r ≠ .psr := fun hp => hq (by simpa [hp] using selectOf_eq_reg hr)
  have entered := reading_enterOne s q o
  have hexec {res : Res Unit} (h : addToLsr r (s.enterOne q o) = res) :
      exec (Form.one .a q o).instr s = .next res.state := by
    have run : addTo r (s.enterOne q o) = addToLsr r (s.enterOne q o) := by
      cases r
      case psr => exact absurd rfl hp
      all_goals rfl
    rw [exec_instr, ← h, ← run]
    exact selectForm_reg (op := .a) rfl hr
  refine ⟨fun x h0 h1 hx => ?_, fun x e h0 he hx => ?_, fun e he => ?_⟩
  · obtain ⟨w, hw, reading⟩ := entered.addToLsr_ok rfl hp h0 h1
    obtain ⟨completes, storage, carry, lsr9⟩ := reading.completed
    obtain ⟨sum, visible⟩ := sameVisible_added (o := o) hr hp hlow hhigh hx
    exact ⟨w, hexec hw, completes, lsr9.trans (by simp [State.added, State.addedLow]), carry.trans sum, storage,
      (reading.visible visible).1⟩
  · obtain ⟨w, hw, reading⟩ := entered.addToLsr_second_faults rfl r h0 he
    obtain ⟨stopped, control, storage, carry⟩ := reading.stop e
    have low : (s.enterOne q o).storedLow r = v.extractLsb' 0 8 :=
      (storedLow_congr (SameVisible.refl s) r).trans hlow
    simp only [State.addedLow, low, addBytes_false, carryOut_false] at reading carry
    refine ⟨_, hexec hw, stopped, control, storage, carry, (reading.visible ?_).2 e⟩
    exact sameVisible_loadedLow (o := o) hr hv hx
  · obtain ⟨w, hw, stops⟩ := stopsUnchanged_of_takeOp1 (q := q) he
    exact ⟨w, hexec (res := .stop w) (by rw [addToLsr, hw, Res.bind_stop]), stops⟩

end Sys2Proof.Machine
end

section
/-! PROOF. The first pass of a decimal instruction over fields whose source bytes are read before they are stored over
(spec/40_arithmetic.md R150-R158): storage byte by byte, and fields as numbers. -/

namespace Sys2Proof.Machine

variable {s t u v w : State} {q : Byte} {a1 a2 : Word} {l1 l2 i j k n : Nat} {f g : Nat → Byte} {d : Nat → BitVec 4}
  {negative : Bool}

/-! ## A field as a number (R150) -/

/-- The number of `n` decimal digits, digit 0 the rightmost. -/
def decimal (d : Nat → BitVec 4) (n : Nat) : Nat := ∑ j ∈ Finset.range n, (d j).toNat * 10 ^ j

@[simp] theorem decimal_zero (d : Nat → BitVec 4) : decimal d 0 = 0 := rfl

theorem decimal_succ (d : Nat → BitVec 4) (n : Nat) : decimal d (n + 1) = decimal d n + (d n).toNat * 10 ^ n :=
  Finset.sum_range_succ _ n

theorem decimal_congr {d' : Nat → BitVec 4} (h : ∀ j < n, d j = d' j) : decimal d n = decimal d' n :=
  Finset.sum_congr rfl fun j hj => by rw [h j (Finset.mem_range.mp hj)]

theorem decimal_eq_zero : decimal d n = 0 ↔ ∀ j < n, d j = 0 := by
  simp [decimal, Finset.sum_eq_zero_iff, ← BitVec.toNat_inj]

theorem decimal_lt (hd : ∀ j < n, (d j).toNat < 10) : decimal d n < 10 ^ n := by
  induction n with
  | zero => simp
  | succ n ih =>
    have := ih fun j hj => hd j (by omega)
    have digit : (d n).toNat ≤ 9 := Nat.le_of_lt_succ (hd n (Nat.lt_succ_self n))
    have := Nat.mul_le_mul_right (10 ^ n) digit
    rw [decimal_succ, pow_succ]
    omega

/-- The magnitude of a field is the number of its numeric parts (R150). -/
theorem magnitude_eq (s : State) (k : Kind) (a : Word) (n : Nat) :
    s.magnitude k a n = decimal (fun j => num (s.peek k (a - BitVec.ofNat 16 j))) n := by
  induction n generalizing a with
  | zero => rfl
  | succ n ih =>
    rw [State.magnitude, ih, decimal, decimal, Finset.sum_range_succ', Finset.mul_sum]
    simp only [sub_one_ofNat, BitVec.sub_zero, pow_succ, pow_zero, mul_one]
    rw [Nat.add_comm]
    exact congrArg (· + _) (Finset.sum_congr rfl fun j _ => by ring)

/-! ## The operand 1 field stored from the right -/

/-- The real address of byte `j` of the operand 1 field that ends at `a`. -/
def State.op1Cell (s : State) (a : Word) (j : Nat) : RealAddr := s.target .op1 (a - BitVec.ofNat 16 j)

/-- The premises about the two fields of a decimal instruction. -/
structure DecimalFields (s : State) (a1 a2 : Word) (l1 l2 : Nat) : Prop where
  readable : s.FieldReadable .op2 a2 l2
  writable : s.FieldWritable a1 l1
  distinct : s.FieldDistinct a1 l1
  kept : s.SourceKept a1 l1 a2 l2
  pos : 0 < l2
  le : l2 ≤ l1

/-- The rightmost `n` bytes of the operand 1 field hold `f`, and every other byte is as it was in `s`. -/
structure Written (s : State) (a1 : Word) (n : Nat) (f : Nat → Byte) (u : State) : Prop where
  done : ∀ j < n, u.byteAt (s.op1Cell a1 j) = f j
  rest : ∀ ra, (∀ j < n, ra ≠ s.op1Cell a1 j) → u.byteAt ra = s.byteAt ra

theorem Written.congr (h : Written s a1 n f u) (hb : ∀ ra, w.byteAt ra = u.byteAt ra) : Written s a1 n f w :=
  ⟨fun j hj => (hb _).trans (h.done j hj), fun ra hra => (hb ra).trans (h.rest ra hra)⟩

/-- A store at the next byte. -/
theorem Written.next (h : Written s a1 n f u) (hd : ∀ j < n, s.op1Cell a1 j ≠ s.op1Cell a1 n)
    (hb : ∀ ra, w.byteAt ra = if ra = s.op1Cell a1 n then f n else u.byteAt ra) : Written s a1 (n + 1) f w := by
  refine ⟨fun j hj => ?_, fun ra hra => ?_⟩
  · obtain hj | rfl := Nat.lt_succ_iff_lt_or_eq.mp hj
    · rw [hb, if_neg (hd j hj), h.done j hj]
    · rw [hb, if_pos rfl]
  · rw [hb, if_neg (hra n (Nat.lt_succ_self n)), h.rest ra fun j hj => hra j (by omega)]

/-- A store over one of the bytes. -/
theorem Written.again (h : Written s a1 n f u) (hd : s.FieldDistinct a1 n) (hk : k < n)
    (hb : ∀ ra, w.byteAt ra = if ra = s.op1Cell a1 k then g k else u.byteAt ra) (hg : ∀ j < n, j ≠ k → g j = f j) :
    Written s a1 n g w := by
  refine ⟨fun j hj => ?_, fun ra hra => ?_⟩
  · by_cases hjk : j = k
    · rw [hb, hjk, if_pos rfl]
    · have other : s.op1Cell a1 j ≠ s.op1Cell a1 k := fun he => hjk (hd j hj k hk he)
      rw [hb, if_neg other, h.done j hj, hg j hj hjk]
  · rw [hb, if_neg (hra k hk), h.rest ra hra]

/-- A byte of operand 2 is still there when its cycle comes (R192). -/
theorem Written.source (h : Written s a1 i f u) (F : DecimalFields s a1 a2 l1 l2) (hi : i < l2) :
    u.byteAt (s.target .op2 (a2 - BitVec.ofNat 16 i)) = s.peek .op2 (a2 - BitVec.ofNat 16 i) :=
  h.rest _ fun j hj => (F.kept i hi j hj (by have := F.le; omega)).symm

/-- So is a byte of operand 1. -/
theorem Written.target (h : Written s a1 i f u) (F : DecimalFields s a1 a2 l1 l2) (hi : i < l1) :
    u.byteAt (s.op1Cell a1 i) = s.peek .op1 (a1 - BitVec.ofNat 16 i) :=
  h.rest _ fun j hj he => absurd (F.distinct i hi j (by omega) he) (by omega)

/-! ## Signed digits (R150) -/

/-- The bytes of a result: the digits `d` with zone F, but zone D in the rightmost byte of a negative one. -/
def signedDigits (negative : Bool) (d : Nat → BitVec 4) (j : Nat) : Byte :=
  zoned (signZone (decide (j = 0) && negative)) (d j)

theorem num_signedDigits (negative : Bool) (d : Nat → BitVec 4) (j : Nat) : num (signedDigits negative d j) = d j :=
  (num_zone_zoned _ _).1

theorem zone_signedDigits (negative : Bool) (d : Nat → BitVec 4) (j : Nat) :
    zone (signedDigits negative d j) = if j = 0 ∧ negative = true then 0xD else 0xF := by
  rw [signedDigits, (num_zone_zoned _ _).2, signZone]
  simp only [Bool.and_eq_true, decide_eq_true_eq]

/-- What a completed instruction shows of a field stored as signed digits. -/
theorem Written.shows (h : Written s a1 l1 (signedDigits negative d) t) (hc : SameChecks s t) :
    OnlyField s t a1 l1 ∧ (∀ j < l1, t.peek .op1 (a1 - BitVec.ofNat 16 j) = signedDigits negative d j) ∧
      t.magnitude .op1 a1 l1 = decimal d l1 := by
  have bytes j (hj : j < l1) : t.peek .op1 (a1 - BitVec.ofNat 16 j) = signedDigits negative d j :=
    (peek_eq hc .op1 _).trans (h.done j hj)
  refine ⟨h.rest, bytes, ?_⟩
  rw [magnitude_eq]
  exact decimal_congr fun j hj => by rw [bytes j hj, num_signedDigits]

/-! ## The first pass (R153-R155) -/

/-- `u` is inside the first pass of a decimal instruction that started in `s`: the rightmost `i` bytes hold `f`, LSR 8
is `i` bytes down the operand 1 field and LSR 9 `j` bytes down the operand 2 field. -/
structure Passing (s : State) (q : Byte) (a1 a2 : Word) (i j : Nat) (f : Nat → Byte) (u : State) : Prop where
  underway : Underway s { s with arr := a1 } u q
  lsr8 : u.lsr8 = a1 - BitVec.ofNat 16 i
  lsr9 : u.lsr9 = a2 - BitVec.ofNat 16 j
  written : Written s a1 i f u

theorem passing_enterDecimal (hm : Memory.wf s.mem = true) (q : Byte) (o1 o2 : Operand) (f : Nat → Byte) :
    Passing s q (s.address o1) (s.address o2) 0 0 f (s.enterDecimal q o1 o2) :=
  ⟨underway_enterDecimal s q o1 o2 hm, (BitVec.sub_zero _).symm, (BitVec.sub_zero _).symm, nofun, fun _ _ => rfl⟩

/-- The latches and the Q-register may change. -/
theorem Passing.update (h : Passing s q a1 a2 i j f u) (qr : Byte) (fc c r cy : Bool) :
    Passing s q a1 a2 i j f
      { u with qReg := qr, firstCycle := fc, complement := c, recomplement := r, carry := cy } :=
  ⟨h.underway.update u.lsr8 u.lsr9 u.msar qr fc c r cy u.compareHit, h.lsr8, h.lsr9, h.written.congr fun _ => rfl⟩

theorem Passing.countDecimalQ (h : Passing s q a1 a2 i j f u) : Passing s q a1 a2 i j f u.countDecimalQ := by
  obtain ⟨h8, h9, -, hb, -⟩ := countDecimalQ_leaves u
  exact ⟨h.underway.countDecimalQ, h8.trans h.lsr8, h9.trans h.lsr9, h.written.congr hb⟩

theorem Passing.takeOp2 (h : Passing s q a1 a2 i i f u) (F : DecimalFields s a1 a2 l1 l2) (hi : i < l2) :
    ∃ w, u.takeOp2 = .ok (s.peek .op2 (a2 - BitVec.ofNat 16 i)) w ∧ Passing s q a1 a2 i (i + 1) f w ∧
      w.carry = u.carry := by
  obtain ⟨w, hw, under, h8, h9, hc, hb⟩ := takeOp2_ok h.underway (by rw [h.lsr9]; exact F.readable i hi)
  rw [h.lsr9, h.written.source F hi] at hw
  exact ⟨w, hw, ⟨under, h8.trans h.lsr8, by rw [h9, h.lsr9, sub_ofNat_succ], h.written.congr hb⟩, hc⟩

theorem Passing.readOp1 (h : Passing s q a1 a2 i j f u) (F : DecimalFields s a1 a2 l1 l2) (hi : i < l1) :
    ∃ w, u.readOp1 = .ok (s.peek .op1 (a1 - BitVec.ofNat 16 i)) w ∧ Passing s q a1 a2 i j f w ∧
      w.carry = u.carry := by
  obtain ⟨w, hw, under, h8, h9, hc, hb⟩ :=
    readOp1_ok h.underway (by rw [h.lsr8]; exact canRead_of_canWrite (F.writable i hi))
  have found := h.written.target F hi
  rw [State.op1Cell] at found
  rw [h.lsr8, found] at hw
  exact ⟨w, hw, ⟨under, h8.trans h.lsr8, h9.trans h.lsr9, h.written.congr hb⟩, hc⟩

theorem Passing.storeOp1 (h : Passing s q a1 a2 i j f u) (F : DecimalFields s a1 a2 l1 l2) (hi : i < l1) :
    ∃ w, u.storeOp1 (f i) = .ok () w ∧ Passing s q a1 a2 (i + 1) j f w ∧ w.carry = u.carry := by
  obtain ⟨w, hw, under, h8, h9, hc, hb⟩ := storeOp1_ok h.underway (f i) (by rw [h.lsr8]; exact F.writable i hi)
  rw [h.lsr8] at hb
  exact ⟨w, hw, ⟨under, by rw [h8, h.lsr8, sub_ofNat_succ], h9.trans h.lsr9,
    h.written.next (fun k hk he => absurd (F.distinct k (by omega) i hi he) (by omega)) hb⟩, hc⟩

/-- Digit `j` of operand 2, which digits 0 continue (R120, R155). -/
def State.digit2 (s : State) (a2 : Word) (l2 j : Nat) : BitVec 4 :=
  if j < l2 then num (s.peek .op2 (a2 - BitVec.ofNat 16 j)) else 0

/-- They do not add to the number (R155). -/
theorem decimal_digit2 (s : State) (a2 : Word) (h : l2 ≤ l1) :
    decimal (s.digit2 a2 l2) l1 = s.magnitude .op2 a2 l2 := by
  rw [magnitude_eq, decimal, decimal, ← Finset.sum_subset (Finset.range_subset_range.mpr h)]
  · exact Finset.sum_congr rfl fun j hj => by rw [State.digit2, if_pos (Finset.mem_range.mp hj)]
  · intro j _ hj
    rw [State.digit2, if_neg (by simpa using hj)]
    exact Nat.zero_mul _

/-! ## The negative zero (R154, R157) -/

/-- The recomplement cycle of a negative zero gives the rightmost byte zone F, and the ARR goes one down. -/
theorem clearNegativeZero_ok (h : Underway s v u q) (ha : u.arr = a1) (hw : Written s a1 l1 (signedDigits true d) u)
    (F : DecimalFields s a1 a2 l1 l2) :
    ∃ t, u.clearNegativeZero = .ok () t ∧ Underway s { v with arr := a1 - 1 } t q ∧
      Written s a1 l1 (signedDigits false d) t ∧ t.carry = !(decsub 0 (d 0) false).2 := by
  have pos : 0 < l1 := Nat.lt_of_lt_of_le F.pos F.le
  have top : s.op1Cell a1 0 = s.target .op1 a1 := by rw [State.op1Cell, BitVec.sub_zero]
  have writable := F.writable 0 pos
  rw [BitVec.sub_zero] at writable
  have started : Underway s v u.startRecomplement q :=
    h.update u.lsr8 u.lsr9 u.msar u.qBackup u.firstCycle true true u.carry u.compareHit
  obtain ⟨y, hy, under, -, -, -, hby⟩ :=
    takeArr_ok started (by rw [State.startRecomplement_arr, ha]; exact canRead_of_canWrite writable)
  have found : u.startRecomplement.byteAt (s.target .op1 a1) = signedDigits true d 0 := top ▸ hw.done 0 pos
  rw [State.startRecomplement_arr, ha] at hy under
  rw [found] at hy
  obtain ⟨z, hz, under, hcz, -, -, hbz⟩ :=
    writeAt_op1_ok (under.setCarry (!(decsub 0 (d 0) false).2)) a1 (zoned 0xF (d 0)) writable
  refine ⟨z, ?_, under, hw.again F.distinct pos (fun ra => ?_) fun j _ hj => ?_, hcz⟩
  · rw [State.clearNegativeZero, hy, Res.bind_ok]
    simp only [num_signedDigits]
    exact hz
  · rw [top, hbz]
    split
    · rfl
    · exact hby ra
  · simp [signedDigits, hj]

end Sys2Proof.Machine
end

section
/-! PROOF. `ZAZ` (spec/40_arithmetic.md R154). -/

namespace Sys2Proof.Machine

variable {s u : State} {q : Byte} {a1 a2 : Word} {l1 l2 i : Nat} {acc : ZazAcc} {negative : Bool}

theorem num_toNat : ∀ b : Byte, (num b).toNat = b.toNat % 16 := by decide +kernel

theorem zone_toNat : ∀ b : Byte, (zone b).toNat = b.toNat / 16 := by decide +kernel

theorem length2_eq (q : Byte) : length2 q = q.toNat % 16 + 1 := by rw [length2, num_toNat]

theorem length1_eq (q : Byte) : length1 q = q.toNat / 16 + (q.toNat % 16 + 1) := by
  rw [length1, zone_toNat, length2_eq]

theorem num_eq_zero : ∀ y : Byte, num y = 0 ↔ y &&& 0x0F = 0 := by decide +kernel

/-- The PSR after a decimal instruction, in the codes of the obligations (R27, R158). -/
theorem setResult_eq : ∀ p nz low, setResult p nz low = withCondition p (conditionOf (!nz) low) := by decide +kernel

/-- A digit that is not zero, so far and in one more cycle. -/
theorem decimal_succ_ne_zero (d : Nat → BitVec 4) (n : Nat) :
    decide (decimal d (n + 1) ≠ 0) = (decide (decimal d n ≠ 0) || d n != 0) := by
  have digit : (d n).toNat = 0 ↔ d n = 0 := by rw [← BitVec.toNat_inj]; rfl
  rw [Bool.eq_iff_iff, decimal_succ]
  by_cases h : d n = 0 <;> simp [h, digit]

/-- The value `ZAZ` moves is zero when all numeric parts of operand 2 are (R154). -/
theorem decimal_digit2_eq_zero (h : l2 ≤ l1) :
    decimal (s.digit2 a2 l2) l1 = 0 ↔ ∀ i < l2, s.peek .op2 (a2 - BitVec.ofNat 16 i) &&& 0x0F = 0 := by
  rw [decimal_digit2 s a2 h, magnitude_eq, decimal_eq_zero]
  simp only [num_eq_zero]

/-- The byte of a result in the masks of the obligations. -/
theorem zoned_signZone : ∀ (c : Bool) (y : Byte),
    zoned (signZone c) (num y) = (if c = true then 0xD0 else 0xF0) ||| (y &&& 0x0F) := by decide +kernel

/-- The bytes `ZAZ` leaves: the digits of operand 2, and hex F0 beyond them (R154). -/
theorem signedDigits_digit2 (s : State) (a2 : Word) (negative : Bool) (hl : 0 < l2) :
    signedDigits negative (s.digit2 a2 l2) i =
      if i < l2 then
        (if i = 0 ∧ negative = true then 0xD0 else 0xF0) ||| (s.peek .op2 (a2 - BitVec.ofNat 16 i) &&& 0x0F)
      else 0xF0 := by
  rw [signedDigits, State.digit2]
  split
  · rw [zoned_signZone]
    simp only [Bool.and_eq_true, decide_eq_true_eq]
  · rw [decide_eq_false (show i ≠ 0 by omega), Bool.false_and]
    decide

/-- `u` is inside the pass of a `ZAZ` that started in `s`, before cycle `i`. -/
structure Zazing (s : State) (q : Byte) (a1 a2 : Word) (l2 i : Nat) (acc : ZazAcc) (u : State) : Prop where
  passing : Passing s q a1 a2 i (min i l2) (signedDigits (s.isMinus .op2 a2) (s.digit2 a2 l2)) u
  carry : u.carry = false
  nz : acc.nz = decide (decimal (s.digit2 a2 l2) i ≠ 0)
  n2 : 0 < i → acc.n2 = s.isMinus .op2 a2

theorem zazing_enterDecimal (hm : Memory.wf s.mem = true) (q : Byte) (o1 o2 : Operand) (l2 : Nat) :
    Zazing s q (s.address o1) (s.address o2) l2 0 ⟨false, false⟩ (s.enterDecimal q o1 o2) :=
  ⟨by rw [Nat.zero_min]; exact passing_enterDecimal hm q o1 o2 _, rfl, by simp, nofun⟩

/-- A byte cycle over a digit of operand 2 (R154). -/
theorem Zazing.cycle_digit (h : Zazing s q a1 a2 l2 i acc u) (F : DecimalFields s a1 a2 l1 l2) (hi : i < l2) :
    ∃ acc' w, zazCycle l2 i acc u = .ok acc' w ∧ Zazing s q a1 a2 l2 (i + 1) acc' w := by
  obtain ⟨passing, carry, nz, n2⟩ := h
  rw [Nat.min_eq_left (Nat.le_of_lt hi)] at passing
  obtain ⟨v, hv, passing, hcv⟩ := passing.countDecimalQ.takeOp2 F hi
  obtain ⟨w, hw, passing, hcw⟩ := passing.storeOp1 F (Nat.lt_of_lt_of_le hi F.le)
  have digit : s.digit2 a2 l2 i = num (s.peek .op2 (a2 - BitVec.ofNat 16 i)) := if_pos hi
  have sign : (if i = 0 then isNegativeZone (zone (s.peek .op2 (a2 - BitVec.ofNat 16 i))) else acc.n2) =
      s.isMinus .op2 a2 := by
    split
    · rename_i h0
      rw [h0, BitVec.sub_zero]
      rfl
    · exact n2 (by omega)
  rw [signedDigits, digit] at hw
  refine ⟨⟨s.isMinus .op2 a2, acc.nz || num (s.peek .op2 (a2 - BitVec.ofNat 16 i)) != 0⟩, w.endCycle,
    by simp only [zazCycle, if_pos hi, hv, sign, hw, Res.bind_ok], ?_, ?_, ?_, fun _ => rfl⟩
  · rw [Nat.min_eq_left hi]
    exact passing.update w.qReg false w.complement w.recomplement w.carry
  · exact hcw.trans (hcv.trans ((countDecimalQ_leaves u).2.2.1.trans carry))
  · rw [decimal_succ_ne_zero, digit, nz]

/-- A byte cycle beyond operand 2 stores hex F0 (R154). -/
theorem Zazing.cycle_fill (h : Zazing s q a1 a2 l2 i acc u) (F : DecimalFields s a1 a2 l1 l2) (hi : i < l1)
    (hl : l2 ≤ i) : ∃ acc' w, zazCycle l2 i acc u = .ok acc' w ∧ Zazing s q a1 a2 l2 (i + 1) acc' w := by
  obtain ⟨passing, carry, nz, n2⟩ := h
  have pos := F.pos
  have digit : s.digit2 a2 l2 i = 0 := if_neg (by omega)
  obtain ⟨w, hw, passing, hcw⟩ := passing.countDecimalQ.storeOp1 F hi
  rw [signedDigits_digit2 s a2 _ pos, if_neg (Nat.not_lt.mpr hl)] at hw
  refine ⟨acc, w.endCycle, by simp only [zazCycle, if_neg (Nat.not_lt.mpr hl), hw, Res.bind_ok], ?_, ?_, ?_,
    fun _ => n2 (by omega)⟩
  · rw [Nat.min_eq_right (by omega)]
    rw [Nat.min_eq_right hl] at passing
    exact passing.update w.qReg false w.complement w.recomplement w.carry
  · exact hcw.trans ((countDecimalQ_leaves u).2.2.1.trans carry)
  · rw [decimal_succ, digit, nz]
    simp

/-- All byte cycles of a `ZAZ` complete. -/
theorem zazing_loop (hm : Memory.wf s.mem = true) (q : Byte) (o1 o2 : Operand)
    (F : DecimalFields s (s.address o1) (s.address o2) l1 l2) :
    ∃ acc u, loop (zazCycle l2) l1 0 ⟨false, false⟩ (s.enterDecimal q o1 o2) = .ok acc u ∧
      Zazing s q (s.address o1) (s.address o2) l2 l1 acc u := by
  obtain ⟨acc, u, hu, h⟩ := loop_ok (inv := fun i acc u => Zazing s q (s.address o1) (s.address o2) l2 i acc u)
    (body := zazCycle l2) l1 0 ⟨false, false⟩
    (fun i acc u _ hi h => by
      rw [Nat.zero_add] at hi
      obtain hl | hl := Nat.lt_or_ge i l2
      · exact h.cycle_digit F hl
      · exact h.cycle_fill F hi hl)
    (zazing_enterDecimal hm q o1 o2 l2)
  rw [Nat.zero_add] at h
  exact ⟨acc, u, hu, h⟩

/-- The end of a `ZAZ`: the negative-zero cycle where it is due, and the conditions (R154, R158). -/
theorem Zazing.finish (h : Zazing s q a1 a2 l2 l1 acc u) (F : DecimalFields s a1 a2 l1 l2) {zero : Bool}
    (hz : zero = decide (decimal (s.digit2 a2 l2) l1 = 0)) :
    ∃ t, (if acc.n2 && !acc.nz then u.clearNegativeZero else .ok () u).bind
          (fun _ s => Res.ok () (s.setPsr (setResult s.psr acc.nz acc.n2))) = .ok () t ∧
      Underway s
        { s with
          psr := withCondition s.psr (conditionOf zero (s.isMinus .op2 a2))
          arr := if s.isMinus .op2 a2 ∧ zero = true then a1 - 1 else a1 } t q ∧
      Written s a1 l1 (signedDigits (s.isMinus .op2 a2 && !zero) (s.digit2 a2 l2)) t ∧
      t.carry = (s.isMinus .op2 a2 && zero) := by
  obtain ⟨⟨under, -, -, written⟩, carry, nz, n2⟩ := h
  have pos : 0 < l1 := Nat.lt_of_lt_of_le F.pos F.le
  have nz : acc.nz = !zero := by rw [nz, hz, decide_not]
  have n2 := n2 pos
  obtain ⟨-, -, -, arr, psr, -⟩ := id under.visible
  simp only [n2, nz, Bool.not_not, setResult_eq, ← Bool.and_eq_true]
  cases hc : s.isMinus .op2 a2 && zero
  · have plain : (s.isMinus .op2 a2 && !zero) = s.isMinus .op2 a2 := by
      cases hm : s.isMinus .op2 a2 <;> simp_all
    simp only [Bool.false_eq_true, if_false, Res.bind_ok, psr, plain]
    exact ⟨_, rfl, under.setPsr _, written.congr fun _ => rfl, carry⟩
  · obtain ⟨hminus, rfl⟩ : s.isMinus .op2 a2 = true ∧ zero = true := by simpa using hc
    rw [hminus] at written
    obtain ⟨t, ht, under, written, carry⟩ := clearNegativeZero_ok under arr written F
    have first : s.digit2 a2 l2 0 = 0 := decimal_eq_zero.mp (of_decide_eq_true hz.symm) 0 pos
    obtain ⟨-, -, -, -, psr, -⟩ := id under.visible
    rw [first] at carry
    simp only [if_true, ht, Res.bind_ok, psr, hminus]
    exact ⟨_, rfl, under.setPsr _, written.congr fun _ => rfl, carry⟩

/-- Settles O57: the pass of `ZAZ`, then its end. -/
theorem zazMovesSignedDigits : Obligations.ZazMovesSignedDigits := by
  intro q o1 o2 s hm a1 a2 l2 l1 hread hwrite hdistinct hkept zero
  have F : DecimalFields s a1 a2 l1 l2 :=
    ⟨hread, hwrite, hdistinct, hkept, Nat.succ_pos _, Nat.le_add_left _ _⟩
  have hz : zero = decide (decimal (s.digit2 a2 l2) l1 = 0) := by
    simp only [zero, decimal_digit2_eq_zero F.le]
  obtain ⟨acc, u, hu, passed⟩ := zazing_loop hm q o1 o2 F
  obtain ⟨t, ht, under, written, carry⟩ := passed.finish F hz
  have hexec : exec (Form.two .zaz q o1 o2).instr s = .next t := by
    rw [exec_instr]
    change (zazRun q (s.enterDecimal q o1 o2)).outcome = .next t
    rw [zazRun, length1_eq, length2_eq, hu, Res.bind_ok, ht]
    rfl
  obtain ⟨only, bytes, -⟩ := written.shows under.checks
  refine ⟨t, hexec, under.completes, carry, only, fun i hi => ?_, under.visible⟩
  rw [bytes i hi, signedDigits_digit2 s a2 _ F.pos]
  simp only [Bool.and_eq_true, Bool.not_eq_true']
  rfl

end Sys2Proof.Machine
end

section
/-! PROOF. Decimal addition and subtraction digit by digit (spec/40_arithmetic.md R150, R152, R155). -/

namespace Sys2Proof.Machine

variable {n i : Nat} {x y : Nat → BitVec 4} {comp : Bool}

/-- The carry or borrow into digit `i` of a pass over the digits `x` and `y`. -/
def carryAt (comp : Bool) (x y : Nat → BitVec 4) : Nat → Bool
  | 0 => false
  | i + 1 => (decimalStep comp (x i) (y i) (carryAt comp x y i)).2

/-- Digit `i` of the result. -/
def digitAt (comp : Bool) (x y : Nat → BitVec 4) (i : Nat) : BitVec 4 :=
  (decimalStep comp (x i) (y i) (carryAt comp x y i)).1

/-- One decimal digit of a sum or difference (R152). -/
theorem decimalStep_toNat : ∀ a b : BitVec 4, a.toNat < 10 → b.toNat < 10 → ∀ c,
    ((decimalStep false a b c).1.toNat < 10 ∧
      (decimalStep false a b c).1.toNat + 10 * (decimalStep false a b c).2.toNat = a.toNat + b.toNat + c.toNat) ∧
    (decimalStep true a b c).1.toNat < 10 ∧
      (decimalStep true a b c).1.toNat + b.toNat + c.toNat = a.toNat + 10 * (decimalStep true a b c).2.toNat := by
  decide +kernel

theorem digitAt_lt (hx : (x i).toNat < 10) (hy : (y i).toNat < 10) : (digitAt comp x y i).toNat < 10 := by
  obtain ⟨⟨add, -⟩, sub, -⟩ := decimalStep_toNat _ _ hx hy (carryAt comp x y i)
  cases comp
  · exact add
  · exact sub

/-- A pass that adds (R155). -/
theorem decimal_add (hx : ∀ j < n, (x j).toNat < 10) (hy : ∀ j < n, (y j).toNat < 10) :
    decimal (digitAt false x y) n + 10 ^ n * (carryAt false x y n).toNat = decimal x n + decimal y n := by
  induction n with
  | zero => rfl
  | succ n ih =>
    have := ih (fun j hj => hx j (by omega)) fun j hj => hy j (by omega)
    obtain ⟨⟨-, step⟩, -⟩ := decimalStep_toNat _ _ (hx n (by omega)) (hy n (by omega)) (carryAt false x y n)
    have step := congrArg (10 ^ n * ·) step
    simp only [decimal_succ, digitAt, carryAt, pow_succ]
    simp only [Nat.mul_add] at step
    linarith

/-- A pass that subtracts, with the borrow counted (R155). -/
theorem decimal_sub (hx : ∀ j < n, (x j).toNat < 10) (hy : ∀ j < n, (y j).toNat < 10) :
    decimal (digitAt true x y) n + decimal y n = decimal x n + 10 ^ n * (carryAt true x y n).toNat := by
  induction n with
  | zero => rfl
  | succ n ih =>
    have := ih (fun j hj => hx j (by omega)) fun j hj => hy j (by omega)
    obtain ⟨-, -, step⟩ := decimalStep_toNat _ _ (hx n (by omega)) (hy n (by omega)) (carryAt true x y n)
    have step := congrArg (10 ^ n * ·) step
    simp only [decimal_succ, digitAt, carryAt, pow_succ]
    simp only [Nat.mul_add] at step
    linarith

/-- The recomplement of the digits `d`: zero minus them (R155, R157). -/
def recomplemented (d : Nat → BitVec 4) : Nat → BitVec 4 := digitAt true (fun _ => 0) d

/-- What the passes of `AZ` and `SZ` leave, by whether magnitudes are added or subtracted: the digits of the first
pass, and of the recomplement pass where the first one borrows (R155). -/
theorem decimal_passes (hx : ∀ j < n, (x j).toNat < 10) (hy : ∀ j < n, (y j).toNat < 10) :
    (decimal (digitAt false x y) n = (decimal x n + decimal y n) % 10 ^ n ∧
      (carryAt false x y n = true ↔ 10 ^ n ≤ decimal x n + decimal y n)) ∧
    (carryAt true x y n = true ↔ decimal x n < decimal y n) ∧
      (decimal y n ≤ decimal x n → decimal (digitAt true x y) n = decimal x n - decimal y n) ∧
      (decimal x n < decimal y n →
        decimal (recomplemented (digitAt true x y)) n = decimal y n - decimal x n) := by
  have ltx := decimal_lt hx
  have lty := decimal_lt hy
  have add := decimal_add hx hy
  have sub := decimal_sub hx hy
  have ltd comp : decimal (digitAt comp x y) n < 10 ^ n := decimal_lt fun j hj => digitAt_lt (hx j hj) (hy j hj)
  have ltadd := ltd false
  have ltsub := ltd true
  have zero : decimal (fun _ => (0 : BitVec 4)) n = 0 := decimal_eq_zero.mpr fun _ _ => rfl
  have hrec := decimal_sub (x := fun _ => 0) (y := digitAt true x y) (n := n) (fun _ _ => by decide)
    fun j hj => digitAt_lt (hx j hj) (hy j hj)
  have ltrec : decimal (recomplemented (digitAt true x y)) n < 10 ^ n :=
    decimal_lt fun j hj => digitAt_lt (by decide) (digitAt_lt (hx j hj) (hy j hj))
  unfold recomplemented at ltrec ⊢
  rw [zero] at hrec
  refine ⟨?_, ?_, fun h => ?_, fun h => ?_⟩
  · cases hc : carryAt false x y n <;> rw [hc] at add <;> simp only [Bool.toNat_false, Bool.toNat_true] at add
    · rw [Nat.mod_eq_of_lt (by omega)]
      simp only [Bool.false_eq_true, false_iff]
      omega
    · rw [← add, Nat.mul_one, Nat.add_mod_right, Nat.mod_eq_of_lt ltadd]
      simp
  · cases hc : carryAt true x y n <;> rw [hc] at sub <;>
      simp only [Bool.toNat_false, Bool.toNat_true, Bool.false_eq_true, false_iff, true_iff] at sub ⊢ <;> omega
  · cases hc : carryAt true x y n <;> rw [hc] at sub <;> simp only [Bool.toNat_false, Bool.toNat_true] at sub <;> omega
  · cases hc : carryAt true x y n <;> rw [hc] at sub <;> simp only [Bool.toNat_false, Bool.toNat_true] at sub
    · omega
    · cases hr : carryAt true (fun _ => 0) (digitAt true x y) n <;> rw [hr] at hrec <;>
        simp only [Bool.toNat_false, Bool.toNat_true] at hrec <;> omega

/-- The algebraic sum of two signed magnitudes: its magnitude, and when it is negative (R150, R155). -/
theorem signed_sum (n1 n2 : Bool) (a b : Nat) :
    let r : Int := (if n1 then -(a : Int) else a) + (if n2 then -(b : Int) else b)
    (n1 = n2 → r.natAbs = a + b ∧ (r < 0 ↔ n1 = true ∧ a + b ≠ 0)) ∧
      (n1 ≠ n2 → b ≤ a → r.natAbs = a - b ∧ (r < 0 ↔ n1 = true ∧ a ≠ b)) ∧
      (n1 ≠ n2 → a < b → r.natAbs = b - a ∧ (r < 0 ↔ n1 = false)) := by
  cases n1 <;> cases n2 <;> simp <;> omega

/-- The passes of `AZ` and `SZ` together make the algebraic sum `r`, modulo ten to the length: the recomplement pass
comes when magnitudes are subtracted and the second is the larger, and then inverts the sign (R150, R155). -/
theorem passes_sum (hx : ∀ j < n, (x j).toNat < 10) (hy : ∀ j < n, (y j).toNat < 10) (n1 n2 : Bool) {r : Int}
    (hr : r = (if n1 then -(decimal x n : Int) else decimal x n) + (if n2 then -(decimal y n : Int) else decimal y n)) :
    (((n1 != n2) && carryAt (n1 != n2) x y n) = true →
      (n1 != n2) = true ∧ decimal x n < decimal y n ∧
        decimal (recomplemented (digitAt (n1 != n2) x y)) n = r.natAbs % 10 ^ n ∧ r.natAbs % 10 ^ n ≠ 0 ∧
        ¬10 ^ n ≤ r.natAbs ∧ (r < 0 ↔ n1 = false)) ∧
    (((n1 != n2) && carryAt (n1 != n2) x y n) = false →
      ¬((n1 != n2) = true ∧ decimal x n < decimal y n) ∧
        decimal (digitAt (n1 != n2) x y) n = r.natAbs % 10 ^ n ∧
        (10 ^ n ≤ r.natAbs ↔ (!(n1 != n2) && carryAt (n1 != n2) x y n) = true) ∧
        (r.natAbs % 10 ^ n ≠ 0 → (r < 0 ↔ n1 = true))) := by
  obtain ⟨⟨sum, carried⟩, borrow, difference, recomplement⟩ := decimal_passes hx hy
  have ltx := decimal_lt hx
  have lty := decimal_lt hy
  obtain ⟨same, fst, snd⟩ := signed_sum n1 n2 (decimal x n) (decimal y n)
  rw [← hr] at same fst snd
  cases hn : n1 != n2
  · obtain ⟨abs, sign⟩ := same (by simpa using hn)
    rw [abs]
    refine ⟨nofun, fun _ => ⟨nofun, sum, by simp only [Bool.not_false, Bool.true_and, carried], fun hz => ?_⟩⟩
    have : decimal x n + decimal y n ≠ 0 := fun h0 => hz (by rw [h0, Nat.zero_mod])
    exact sign.trans (and_iff_left this)
  · have differ : n1 ≠ n2 := by simpa using hn
    simp only [Bool.true_and, Bool.not_true, Bool.false_and, true_and, Bool.false_eq_true, iff_false]
    refine ⟨fun hc => ?_, fun hc => ?_⟩
    · have less := borrow.mp hc
      obtain ⟨abs, sign⟩ := snd differ less
      rw [abs, Nat.mod_eq_of_lt (by omega)]
      exact ⟨less, recomplement less, by omega, by omega, sign⟩
    · have less : ¬decimal x n < decimal y n := by simp [← borrow, hc]
      obtain ⟨abs, sign⟩ := fst differ (by omega)
      rw [abs, Nat.mod_eq_of_lt (by omega)]
      exact ⟨less, difference (by omega), by omega, fun hz => sign.trans (and_iff_left (by omega))⟩

end Sys2Proof.Machine
end

section
/-! PROOF. `AZ` and `SZ` (spec/40_arithmetic.md R155-R157). -/

namespace Sys2Proof.Machine

variable {s u : State} {sub : Bool} {q : Byte} {a1 a2 : Word} {l1 l2 i : Nat}

/-- Digit `j` of operand 1. -/
def State.digit1 (s : State) (a1 : Word) (j : Nat) : BitVec 4 := num (s.peek .op1 (a1 - BitVec.ofNat 16 j))

/-- The signs call for complement mode: magnitudes are subtracted (R155, R156). -/
def State.complements (s : State) (sub : Bool) (a1 a2 : Word) : Bool :=
  s.isMinus .op1 a1 != (s.isMinus .op2 a2 != sub)

/-- The carry or borrow into digit `i` of the first pass. -/
def State.addCarry (s : State) (sub : Bool) (a1 a2 : Word) (l2 i : Nat) : Bool :=
  carryAt (s.complements sub a1 a2) (s.digit1 a1) (s.digit2 a2 l2) i

/-- Digit `i` the first pass stores. -/
def State.addDigit (s : State) (sub : Bool) (a1 a2 : Word) (l2 i : Nat) : BitVec 4 :=
  digitAt (s.complements sub a1 a2) (s.digit1 a1) (s.digit2 a2 l2) i

/-! ## The first pass -/

/-- `u` is inside the first pass of an `AZ` or `SZ` that started in `s`, before cycle `i`. -/
structure Adding (s : State) (sub : Bool) (q : Byte) (a1 a2 : Word) (l2 i : Nat) (acc : AddAcc) (u : State) :
    Prop where
  passing : Passing s q a1 a2 i (min i l2) (signedDigits (s.isMinus .op1 a1) (s.addDigit sub a1 a2 l2)) u
  carry : acc.c = s.addCarry sub a1 a2 l2 i
  nz : acc.nz = decide (decimal (s.addDigit sub a1 a2 l2) i ≠ 0)
  n1 : 0 < i → acc.n1 = s.isMinus .op1 a1
  comp : 0 < i → acc.comp = s.complements sub a1 a2

theorem adding_enterDecimal (hm : Memory.wf s.mem = true) (sub : Bool) (q : Byte) (o1 o2 : Operand) (l2 : Nat) :
    Adding s sub q (s.address o1) (s.address o2) l2 0 ⟨false, false, false, false⟩ (s.enterDecimal q o1 o2) :=
  ⟨by rw [Nat.zero_min]; exact passing_enterDecimal hm q o1 o2 _, rfl, by simp, nofun, nofun⟩

/-- The operand 2 byte of a cycle, hex 00 beyond the field (R155). -/
theorem Passing.takeDigit2 {f : Nat → Byte} (h : Passing s q a1 a2 i (min i l2) f u)
    (F : DecimalFields s a1 a2 l1 l2) :
    ∃ y w, Machine.takeDigit2 l2 i u = .ok y w ∧ num y = s.digit2 a2 l2 i ∧
      (i = 0 → isNegativeZone (zone y) = s.isMinus .op2 a2) ∧ Passing s q a1 a2 i (min (i + 1) l2) f w := by
  have pos := F.pos
  unfold Machine.takeDigit2 State.digit2
  by_cases hi : i < l2
  · rw [Nat.min_eq_left (Nat.le_of_lt hi)] at h
    obtain ⟨w, hw, passing, -⟩ := h.takeOp2 F hi
    rw [if_pos hi, if_pos hi, Nat.min_eq_left hi]
    exact ⟨_, w, hw, rfl, fun h0 => by rw [h0, BitVec.sub_zero]; rfl, passing⟩
  · rw [Nat.min_eq_right (by omega)] at h
    rw [if_neg hi, if_neg hi, Nat.min_eq_right (by omega)]
    exact ⟨0x00, u, rfl, rfl, fun h0 => absurd (h0 ▸ pos) hi, h⟩

/-- A byte cycle of the first pass (R155). -/
theorem Adding.cycle {acc : AddAcc} (h : Adding s sub q a1 a2 l2 i acc u) (F : DecimalFields s a1 a2 l1 l2)
    (hi : i < l1) : ∃ acc' w, addCycle sub l2 i acc u = .ok acc' w ∧ Adding s sub q a1 a2 l2 (i + 1) acc' w := by
  obtain ⟨passing, carry, nz, n1, comp⟩ := h
  obtain ⟨y, v, hv, hy, minus2, passing⟩ := passing.countDecimalQ.takeDigit2 F
  obtain ⟨w, hw, passing, -⟩ := passing.readOp1 F hi
  obtain ⟨x, hx⟩ : ∃ x, x = s.peek .op1 (a1 - BitVec.ofNat 16 i) := ⟨_, rfl⟩
  rw [← hx] at hw
  have sign : (if i = 0 then isNegativeZone (zone x) else acc.n1) = s.isMinus .op1 a1 := by
    split
    · rename_i h0
      rw [hx, h0, BitVec.sub_zero]
      rfl
    · exact n1 (by omega)
  have mode : (if i = 0 then s.isMinus .op1 a1 != (isNegativeZone (zone y) ^^ sub) else acc.comp) =
      s.complements sub a1 a2 := by
    split
    · rename_i h0
      rw [minus2 h0]
      rfl
    · exact comp (by omega)
  have digit : (decimalStep (s.complements sub a1 a2) (num x) (num y) acc.c).1 = s.addDigit sub a1 a2 l2 i := by
    rw [hy, hx, carry]
    rfl
  have out : (decimalStep (s.complements sub a1 a2) (num x) (num y) acc.c).2 = s.addCarry sub a1 a2 l2 (i + 1) := by
    rw [hy, hx, carry]
    rfl
  obtain ⟨t, ht, passing, -⟩ := (passing.update w.qReg w.firstCycle (w.complement || s.complements sub a1 a2)
    w.recomplement (s.addCarry sub a1 a2 l2 (i + 1) != s.complements sub a1 a2)).storeOp1 F hi
  rw [signedDigits] at ht
  refine ⟨⟨s.addCarry sub a1 a2 l2 (i + 1), acc.nz || s.addDigit sub a1 a2 l2 i != 0, s.isMinus .op1 a1,
    s.complements sub a1 a2⟩, t.endCycle, ?_, ?_, rfl, ?_, fun _ => rfl, fun _ => rfl⟩
  · simp only [addCycle, hv, hw, Res.bind_ok, sign, mode, digit, out]
    exact (congrArg (Res.bind · _) ht).trans (Res.bind_ok _ _ _)
  · exact passing.update t.qReg false t.complement t.recomplement t.carry
  · rw [decimal_succ_ne_zero, nz]

/-- All byte cycles of the first pass complete. -/
theorem adding_loop (hm : Memory.wf s.mem = true) (sub : Bool) (q : Byte) (o1 o2 : Operand)
    (F : DecimalFields s (s.address o1) (s.address o2) l1 l2) :
    ∃ acc u, loop (addCycle sub l2) l1 0 ⟨false, false, false, false⟩ (s.enterDecimal q o1 o2) = .ok acc u ∧
      Adding s sub q (s.address o1) (s.address o2) l2 l1 acc u := by
  obtain ⟨acc, u, hu, h⟩ := loop_ok (inv := fun i acc u => Adding s sub q (s.address o1) (s.address o2) l2 i acc u)
    (body := addCycle sub l2) l1 0 ⟨false, false, false, false⟩
    (fun i acc u _ hi h => h.cycle F (by rwa [Nat.zero_add] at hi)) (adding_enterDecimal hm sub q o1 o2 l2)
  rw [Nat.zero_add] at h
  exact ⟨acc, u, hu, h⟩

/-! ## The recomplement pass -/

variable {n1 : Bool} {d : Nat → BitVec 4}

/-- The bytes of the field before cycle `i` of the recomplement pass: the digits of the first pass with its sign, the
rightmost `i` recomplemented with the sign inverted (R155, R157). -/
def partlyRecomplemented (n1 : Bool) (d : Nat → BitVec 4) (i j : Nat) : Byte :=
  if j < i then signedDigits (!n1) (recomplemented d) j else signedDigits n1 d j

/-- `u` is inside the recomplement pass of an `AZ` or `SZ` that started in `s`, before cycle `i`. -/
structure Recomplementing (s : State) (q : Byte) (a1 : Word) (l1 : Nat) (n1 : Bool) (d : Nat → BitVec 4) (i : Nat)
    (acc : RecompAcc) (u : State) : Prop where
  underway : Underway s { s with arr := a1 - BitVec.ofNat 16 i } u q
  written : Written s a1 l1 (partlyRecomplemented n1 d i) u
  carry : acc.c = carryAt true (fun _ => 0) d i
  nz : acc.nz = decide (decimal (recomplemented d) i ≠ 0)

theorem recomplementing_start (h : Underway s { s with arr := a1 } u q) (hw : Written s a1 l1 (signedDigits n1 d) u) :
    Recomplementing s q a1 l1 n1 d 0 ⟨false, false⟩ u.startRecomplement := by
  refine ⟨?_, hw.congr fun _ => rfl, rfl, by simp⟩
  rw [BitVec.sub_zero]
  exact h.update u.lsr8 u.lsr9 u.msar u.qBackup u.firstCycle true true u.carry u.compareHit

/-- A cycle of the recomplement pass (R155, R157). -/
theorem Recomplementing.cycle {acc : RecompAcc} (h : Recomplementing s q a1 l1 n1 d i acc u)
    (F : DecimalFields s a1 a2 l1 l2) (hi : i < l1) :
    ∃ acc' w, recomplementCycle n1 i acc u = .ok acc' w ∧ Recomplementing s q a1 l1 n1 d (i + 1) acc' w := by
  obtain ⟨underway, written, carry, nz⟩ := h
  obtain ⟨v, hv, underway, harr, hbv⟩ : ∃ v, (if i = 0 then u else { u with qReg := countNibbles u.qReg }) = v ∧
      Underway s { s with arr := a1 - BitVec.ofNat 16 i } v q ∧ v.arr = a1 - BitVec.ofNat 16 i ∧
      ∀ ra, v.byteAt ra = u.byteAt ra := by
    obtain ⟨-, -, -, arr, -⟩ := id underway.visible
    refine ⟨_, rfl, ?_⟩
    split
    · exact ⟨underway, arr, fun _ => rfl⟩
    · exact ⟨underway.update u.lsr8 u.lsr9 u.msar (countNibbles u.qReg) u.firstCycle u.complement u.recomplement
        u.carry u.compareHit, arr, fun _ => rfl⟩
  have writable := F.writable i hi
  obtain ⟨w, hw, underway, -, -, -, hbw⟩ := takeArr_ok underway (by rw [harr]; exact canRead_of_canWrite writable)
  have found : v.byteAt (s.target .op1 (a1 - BitVec.ofNat 16 i)) = signedDigits n1 d i :=
    (hbv _).trans ((written.done i hi).trans (if_neg (Nat.lt_irrefl i)))
  rw [harr, sub_ofNat_succ] at underway
  rw [harr, found] at hw
  have digit : (decsub 0 (num (signedDigits n1 d i)) acc.c).1 = recomplemented d i := by
    rw [num_signedDigits, carry]
    rfl
  have out : (decsub 0 (num (signedDigits n1 d i)) acc.c).2 = carryAt true (fun _ => 0) d (i + 1) := by
    rw [num_signedDigits, carry]
    rfl
  obtain ⟨t, ht, underway, -, -, -, hbt⟩ := writeAt_op1_ok
    (underway.setCarry (!carryAt true (fun _ => 0) d (i + 1))) (a1 - BitVec.ofNat 16 i)
    (signedDigits (!n1) (recomplemented d) i) writable
  rw [signedDigits] at ht
  refine ⟨⟨carryAt true (fun _ => 0) d (i + 1), acc.nz || recomplemented d i != 0⟩, t, ?_, underway,
    written.again F.distinct hi (fun ra => ?_) fun j _ hj => ?_, rfl, ?_⟩
  · simp only [recomplementCycle, hv, hw, Res.bind_ok, digit, out, ht]
  · rw [hbt, partlyRecomplemented, if_pos (Nat.lt_succ_self i)]
    split
    · exact (if_pos (by assumption)).symm
    · exact ((hbw ra).trans (hbv ra)).trans (if_neg (by assumption)).symm
  · unfold partlyRecomplemented
    by_cases hlt : j < i
    · rw [if_pos hlt, if_pos (Nat.lt_succ_of_lt hlt)]
    · rw [if_neg hlt, if_neg (by omega)]
  · rw [decimal_succ_ne_zero, nz]

/-- All its cycles complete: the field is recomplemented. -/
theorem recomplementing_loop (h : Underway s { s with arr := a1 } u q) (hw : Written s a1 l1 (signedDigits n1 d) u)
    (F : DecimalFields s a1 a2 l1 l2) :
    ∃ acc t, loop (recomplementCycle n1) l1 0 ⟨false, false⟩ u.startRecomplement = .ok acc t ∧
      Underway s { s with arr := a1 - BitVec.ofNat 16 l1 } t q ∧
      Written s a1 l1 (signedDigits (!n1) (recomplemented d)) t ∧
      acc.nz = decide (decimal (recomplemented d) l1 ≠ 0) := by
  obtain ⟨acc, t, ht, h⟩ := loop_ok (inv := fun i acc u => Recomplementing s q a1 l1 n1 d i acc u)
    (body := recomplementCycle n1) l1 0 ⟨false, false⟩
    (fun i acc u _ hi h => h.cycle F (by rwa [Nat.zero_add] at hi)) (recomplementing_start h hw)
  rw [Nat.zero_add] at h
  exact ⟨acc, t, ht, h.underway, ⟨fun j hj => (h.written.done j hj).trans (if_pos hj), h.written.rest⟩, h.nz⟩

/-! ## The end (R155-R158) -/

/-- What an `AZ` or `SZ` leaves: the digits `d` with their sign, the conditions of the stored result, Decimal overflow
where the pass carries, and an ARR. -/
structure Settled (s : State) (q : Byte) (a1 : Word) (l1 : Nat) (d : Nat → BitVec 4) (negative overflow : Bool)
    (arr : Word) (t : State) : Prop where
  underway : Underway s
    { s with
      psr := withCondition (s.psr ||| (if overflow = true then 0x08 else 0x00))
        (conditionOf (decide (decimal d l1 = 0)) negative)
      arr := arr } t q
  written : Written s a1 l1 (signedDigits (negative && decide (decimal d l1 ≠ 0)) d) t

/-- Where the first pass borrows from beyond the field, the recomplement pass follows. -/
theorem Adding.settle_recomplement {acc : AddAcc} (h : Adding s sub q a1 a2 l2 l1 acc u)
    (F : DecimalFields s a1 a2 l1 l2)
    (hc : (s.complements sub a1 a2 && s.addCarry sub a1 a2 l2 l1) = true)
    (hz : decimal (recomplemented (s.addDigit sub a1 a2 l2)) l1 ≠ 0) :
    ∃ t, settleAdd l1 acc u = .ok () t ∧
      Settled s q a1 l1 (recomplemented (s.addDigit sub a1 a2 l2)) (!s.isMinus .op1 a1) false
        (a1 - BitVec.ofNat 16 l1) t := by
  obtain ⟨⟨underway, -, -, written⟩, carry, -, n1, comp⟩ := h
  have pos : 0 < l1 := Nat.lt_of_lt_of_le F.pos F.le
  obtain ⟨hcomp, hcarry⟩ : s.complements sub a1 a2 = true ∧ s.addCarry sub a1 a2 l2 l1 = true := by simpa using hc
  obtain ⟨r, t, ht, underway, written, nz⟩ := recomplementing_loop underway written F
  obtain ⟨-, -, -, -, psr, -⟩ := id underway.visible
  refine ⟨t.setPsr (setResult t.psr r.nz (!s.isMinus .op1 a1)), ?_, ?_, ?_⟩
  · simp only [settleAdd, n1 pos, comp pos, carry, hcomp, hcarry, Bool.not_true, Bool.false_and, Bool.and_self,
      Bool.false_eq_true, if_true, if_false, ht, Res.bind_ok, finishAdd]
  · rw [setResult_eq, nz, decide_not, Bool.not_not, psr]
    simpa using underway.setPsr _
  · rw [decide_eq_true hz, Bool.and_true]
    exact written.congr fun _ => rfl

/-- A carry out of a true addition turns Decimal overflow on (R155). -/
theorem overflow_set {v : State} (h : Underway s v u q) (hp : v.psr = s.psr) (overflow : Bool) :
    Underway s { v with psr := s.psr ||| (if overflow = true then 0x08 else 0x00) }
      (if overflow = true then u.setPsr (setFlag u.psr psrDO true) else u) q := by
  obtain ⟨-, -, -, -, psr, -⟩ := id h.visible
  cases overflow
  · simpa [← hp] using h
  · rw [if_pos rfl, psr, hp]
    exact h.setPsr _

/-- Elsewhere the digits of the first pass stay, and a negative zero gets zone F. -/
theorem Adding.settle_plain {acc : AddAcc} (h : Adding s sub q a1 a2 l2 l1 acc u) (F : DecimalFields s a1 a2 l1 l2)
    (hc : (s.complements sub a1 a2 && s.addCarry sub a1 a2 l2 l1) = false) :
    ∃ t, settleAdd l1 acc u = .ok () t ∧
      Settled s q a1 l1 (s.addDigit sub a1 a2 l2) (s.isMinus .op1 a1)
        (!s.complements sub a1 a2 && s.addCarry sub a1 a2 l2 l1)
        (if s.isMinus .op1 a1 = true ∧ decimal (s.addDigit sub a1 a2 l2) l1 = 0 then a1 - 1 else a1) t := by
  obtain ⟨⟨underway, -, -, written⟩, carry, nz, n1, comp⟩ := h
  have pos : 0 < l1 := Nat.lt_of_lt_of_le F.pos F.le
  obtain ⟨overflow, ho⟩ : ∃ o, o = (!s.complements sub a1 a2 && s.addCarry sub a1 a2 l2 l1) := ⟨_, rfl⟩
  simp only [settleAdd, n1 pos, comp pos, carry, hc, ← ho, Bool.false_eq_true, if_false, nz]
  have underway := overflow_set underway rfl overflow
  replace written : Written s a1 l1 (signedDigits (s.isMinus .op1 a1) (s.addDigit sub a1 a2 l2))
      (if overflow = true then u.setPsr (setFlag u.psr psrDO true) else u) :=
    written.congr fun _ => by split <;> rfl
  generalize (if overflow = true then u.setPsr (setFlag u.psr psrDO true) else u) = v at underway written ⊢
  obtain ⟨-, -, -, arr, psr, -⟩ := id underway.visible
  by_cases hz : s.isMinus .op1 a1 = true ∧ decimal (s.addDigit sub a1 a2 l2) l1 = 0
  · obtain ⟨hminus, hzero⟩ := hz
    rw [hminus] at written ⊢
    obtain ⟨t, ht, underway, written, -⟩ := clearNegativeZero_ok underway arr written F
    obtain ⟨-, -, -, -, psr, -⟩ := id underway.visible
    refine ⟨t.setPsr (setResult t.psr false false), by simp [hzero, ht, finishAdd], ?_, ?_⟩
    · simpa [hzero, setResult_eq, psr, conditionOf] using underway.setPsr (setResult t.psr false false)
    · simp only [hzero, ne_eq, not_true_eq_false, decide_false, Bool.and_false]
      exact written.congr fun _ => rfl
  · refine ⟨v.setPsr (setResult v.psr (decide (decimal (s.addDigit sub a1 a2 l2) l1 ≠ 0)) (s.isMinus .op1 a1)),
      ?_, ?_, ?_⟩
    · have plain : (s.isMinus .op1 a1 && !decide (decimal (s.addDigit sub a1 a2 l2) l1 ≠ 0)) = false := by
        simpa using hz
      simp only [plain, Bool.false_eq_true, if_false, finishAdd]
    · rw [if_neg hz, setResult_eq, decide_not, Bool.not_not, psr]
      exact underway.setPsr _
    · have same : (s.isMinus .op1 a1 && decide (decimal (s.addDigit sub a1 a2 l2) l1 ≠ 0)) = s.isMinus .op1 a1 := by
        simpa using hz
      rw [same]
      exact written.congr fun _ => rfl

/-- The two signed values of an `AZ` or `SZ`, as its passes see them (R150, R156). -/
theorem decimalSum_eq (s : State) (sub : Bool) (a1 a2 : Word) (h : l2 ≤ l1) :
    (if sub = true then s.decimalValue .op1 a1 l1 - s.decimalValue .op2 a2 l2
      else s.decimalValue .op1 a1 l1 + s.decimalValue .op2 a2 l2) =
    (if s.isMinus .op1 a1 then -(decimal (s.digit1 a1) l1 : Int) else decimal (s.digit1 a1) l1) +
      (if (s.isMinus .op2 a2 != sub) = true then -(decimal (s.digit2 a2 l2) l1 : Int)
        else decimal (s.digit2 a2 l2) l1) := by
  have m1 : s.magnitude .op1 a1 l1 = decimal (s.digit1 a1) l1 := magnitude_eq s .op1 a1 l1
  rw [State.decimalValue, State.decimalValue, m1, ← decimal_digit2 s a2 h]
  cases sub <;> cases s.isMinus .op2 a2 <;> simp [sub_eq_add_neg]

/-- The two passes and what follows them, in the terms of the algebraic sum `r` (R155). -/
theorem Adding.settle {acc : AddAcc} (h : Adding s sub q a1 a2 l2 l1 acc u) (F : DecimalFields s a1 a2 l1 l2)
    (hd1 : s.DecimalField .op1 a1 l1) (hd2 : s.DecimalField .op2 a2 l2) {r : Int}
    (hr : r = if sub = true then s.decimalValue .op1 a1 l1 - s.decimalValue .op2 a2 l2
      else s.decimalValue .op1 a1 l1 + s.decimalValue .op2 a2 l2) :
    ∃ t d negative overflow, settleAdd l1 acc u = .ok () t ∧ (∀ j < l1, (d j).toNat < 10) ∧
      decimal d l1 = r.natAbs % 10 ^ l1 ∧ (overflow = true ↔ 10 ^ l1 ≤ r.natAbs) ∧
      (r.natAbs % 10 ^ l1 ≠ 0 → (negative = true ↔ r < 0)) ∧
      Settled s q a1 l1 d negative overflow
        (if s.complements sub a1 a2 = true ∧ s.magnitude .op1 a1 l1 < s.magnitude .op2 a2 l2 then
          a1 - BitVec.ofNat 16 l1
        else if s.isMinus .op1 a1 = true ∧ r.natAbs % 10 ^ l1 = 0 then a1 - 1
        else a1) t := by
  have hx : ∀ j < l1, (s.digit1 a1 j).toNat < 10 := hd1
  have hy : ∀ j < l1, (s.digit2 a2 l2 j).toNat < 10 := fun j _ => by
    unfold State.digit2
    split
    · exact hd2 j (by assumption)
    · decide
  have hD j (hj : j < l1) : (s.addDigit sub a1 a2 l2 j).toNat < 10 := digitAt_lt (hx j hj) (hy j hj)
  obtain ⟨borrowed, plain⟩ := passes_sum hx hy (s.isMinus .op1 a1) (s.isMinus .op2 a2 != sub)
    (hr.trans (decimalSum_eq s sub a1 a2 F.le))
  have m1 : s.magnitude .op1 a1 l1 = decimal (s.digit1 a1) l1 := magnitude_eq s .op1 a1 l1
  rw [m1, ← decimal_digit2 s a2 F.le]
  cases hc : s.complements sub a1 a2 && s.addCarry sub a1 a2 l2 l1
  · obtain ⟨smaller, stored, overflow, sign⟩ : ¬(s.complements sub a1 a2 = true ∧ _) ∧
      decimal (s.addDigit sub a1 a2 l2) l1 = _ ∧ _ := plain hc
    obtain ⟨t, ht, settled⟩ := h.settle_plain F hc
    refine ⟨t, _, _, _, ht, hD, stored, overflow.symm, fun hz => (sign hz).symm, ?_⟩
    rw [if_neg smaller, ← stored]
    exact settled
  · obtain ⟨comp, smaller, stored, nonzero, fits, sign⟩ : s.complements sub a1 a2 = true ∧ _ := borrowed hc
    obtain ⟨t, ht, settled⟩ := h.settle_recomplement F hc (stored.trans_ne nonzero)
    refine ⟨t, _, !s.isMinus .op1 a1, false, ht, fun j hj => digitAt_lt (by decide) (hD j hj), stored,
      iff_of_false Bool.false_ne_true fits, fun _ => by simp [sign], ?_⟩
    rw [if_pos ⟨comp, smaller⟩]
    exact settled

/-- Settles O58: the first pass, then its end. -/
theorem azSzAddSignedDecimals : Obligations.AzSzAddSignedDecimals := by
  intro sub q o1 o2 s hm a1 a2 l2 l1 hread hwrite hdistinct hkept hd1 hd2 r stored signsDiffer
  have F : DecimalFields s a1 a2 l1 l2 :=
    ⟨hread, hwrite, hdistinct, hkept, Nat.succ_pos _, Nat.le_add_left _ _⟩
  obtain ⟨acc, u, hu, passed⟩ := adding_loop hm sub q o1 o2 F
  obtain ⟨t, d, negative, overflow, ht, digits, hstored, hover, hsign, under, written⟩ :=
    passed.settle F hd1 hd2 (r := r) rfl
  have run : zonedAddSub sub q (s.enterDecimal q o1 o2) = .ok () t := by
    rw [zonedAddSub, length1_eq, length2_eq, hu, Res.bind_ok]
    exact ht
  have hexec : exec (Form.two (if sub then .sz else .az) q o1 o2).instr s = .next t := by
    rw [exec_instr]
    cases sub <;> exact congrArg Res.outcome run
  obtain ⟨only, bytes, magnitude⟩ := written.shows under.checks
  refine ⟨t, hexec, under.completes, only, fun j hj => ?_, magnitude.trans hstored, fun j hj => ?_, ?_⟩
  · rw [bytes j hj, num_signedDigits]
    exact digits j hj
  · rw [bytes j hj, zone_signedDigits, hstored]
    congr 1
    simp only [Bool.and_eq_true, decide_eq_true_eq, eq_iff_iff]
    exact and_congr_right fun _ => and_congr_left hsign
  · have condition : conditionOf (decide (decimal d l1 = 0)) negative =
        conditionOf (decide (stored = 0)) (decide (r < 0)) := by
      rw [hstored]
      by_cases hz : stored = 0
      · exact (if_pos (decide_eq_true hz)).trans (if_pos (decide_eq_true hz)).symm
      · rw [Bool.eq_iff_iff.mpr ((hsign hz).trans decide_eq_true_iff.symm)]
    have visible := under.visible
    simp only [condition, hover] at visible
    exact visible

end Sys2Proof.Machine
end

section
/-! PROOF. `A` with the PSR selected (spec/40_arithmetic.md R166). -/

namespace Sys2Proof.Machine

variable {s t u : State} {q : Byte} {a1 : Word} {e : StopEvent}

theorem Reading.freePsr (h : Reading s q u t) : Reading s q u.freePsr t.freePsr := by
  obtain ⟨completes, pmr, storage, l8, m, f, hit, rfl⟩ := h
  exact ⟨completes, pmr, storage, _, _, _, _, rfl⟩

theorem Reading.freeLcrr (h : Reading s q u t) : Reading s q u.freeLcrr t.freeLcrr := by
  obtain ⟨completes, pmr, storage, l8, m, f, hit, rfl⟩ := h
  exact ⟨completes, pmr, storage, _, _, _, _, rfl⟩

theorem Reading.freeCarry (h : Reading s q u t) : Reading s q u.freeCarry t.freeCarry := by
  obtain ⟨completes, pmr, storage, l8, m, f, hit, rfl⟩ := h
  exact ⟨completes, pmr, storage, _, _, _, _, rfl⟩

/-- The first cycle of `A` with the PSR selected, and where the second one reads (R166). -/
theorem Reading.addToPsr_first (h : Reading s q u t) (h8 : t.lsr8 = a1) (hr : s.canRead .op1 a1 = true) :
    ∃ w, t.takeOp1 = .ok (s.peek .op1 a1) w ∧
      Reading s q u.freePsr.freeCarry w.freePsr.freeCarry.endCycle ∧
      w.freePsr.freeCarry.endCycle.lsr8 = a1 - 1 := by
  obtain ⟨w, hw, reading, h8⟩ := h.takeOp1_ok h8 hr
  exact ⟨w, hw, reading.freePsr.freeCarry.endCycle, h8⟩

theorem Reading.addToPsr_ok (h : Reading s q u t) (h8 : t.lsr8 = a1) (hr : s.canRead .op1 a1 = true)
    (hr' : s.canRead .op1 (a1 - 1) = true) :
    ∃ w, addToPsr t = .ok () w ∧ Reading s q u.freePsr.freeCarry.freeLcrr.freeCarry w := by
  obtain ⟨w, hw, reading, h8⟩ := h.addToPsr_first h8 hr
  obtain ⟨y, hy, reading, -⟩ := reading.takeOp1_ok h8 hr'
  exact ⟨_, by simp only [addToPsr, hw, hy, Res.bind_ok], reading.freeLcrr.freeCarry⟩

theorem Reading.addToPsr_second_faults (h : Reading s q u t) (h8 : t.lsr8 = a1) (hr : s.canRead .op1 a1 = true)
    (he : s.readCheck .op1 (a1 - 1) = .error e) :
    ∃ w, addToPsr t = .stop (w.stop e) ∧ Reading s q u.freePsr.freeCarry w := by
  obtain ⟨w, hw, reading, h8⟩ := h.addToPsr_first h8 hr
  obtain ⟨y, hy, reading⟩ := reading.takeOp1_error h8 he
  exact ⟨y, by simp only [addToPsr, hw, hy, Res.bind_ok, Res.bind_stop], reading⟩

/-- PSR bits 0 and 1 are not among the six free ones (R26, R166). -/
theorem freePsr_and (u : State) : u.freePsr.psr &&& 0xC0 = 0 := by
  have masked : ∀ b : Byte, b &&& 0x3F &&& 0xC0 = 0 := by decide +kernel
  exact masked _

/-- Settles O44: the two cycles of `A` with the PSR selected, and a fault on either read. -/
theorem aWithPsrLeavesStatusFree : Obligations.AWithPsrLeavesStatusFree := by
  intro o s
  have entered := reading_enterOne s 0x04 o
  have hexec {res : Res Unit} (h : addToPsr (s.enterOne 0x04 o) = res) :
      exec (Form.one .a 0x04 o).instr s = .next res.state := by
    rw [exec_instr, ← h]
    exact selectForm_reg (op := .a) (q := 0x04) (r := .psr) rfl rfl
  refine ⟨fun h0 h1 => ?_, fun e h0 he => ?_, fun e he => ?_⟩
  · obtain ⟨w, hw, reading⟩ := entered.addToPsr_ok rfl h0 h1
    obtain ⟨completes, storage, -, lsr9⟩ := reading.completed
    obtain ⟨iar, xr1, xr2, arr, psr, pmr, -⟩ := (reading.visible (SameVisible.refl _)).1
    exact ⟨w, hexec hw, completes, lsr9, storage, psr ▸ freePsr_and _, iar, xr1, xr2, arr, rfl, pmr, rfl, rfl⟩
  · obtain ⟨w, hw, reading⟩ := entered.addToPsr_second_faults rfl h0 he
    obtain ⟨stopped, control, storage, -⟩ := reading.stop e
    obtain ⟨iar, xr1, xr2, arr, psr, pmr, lcrr, -⟩ := (reading.visible (SameVisible.refl _)).2 e
    exact ⟨_, hexec hw, stopped, control, storage, psr ▸ freePsr_and _, iar, xr1, xr2, arr, rfl, pmr, lcrr, rfl⟩
  · obtain ⟨w, hw, stops⟩ := stopsUnchanged_of_takeOp1 (q := 0x04) he
    exact ⟨w, hexec (res := .stop w) (by rw [addToPsr, hw, Res.bind_stop]), stops⟩

end Sys2Proof.Machine
end

section
/-! PROOF. Byte cycles that step down both operand fields (spec/10_state.md R24, R73): where the pointers stand, and
what the accesses of a cycle answer, whatever is stored. -/

namespace Sys2Proof.Machine

variable {s v u w t : State} {q : Byte} {a1 a2 : Word} {i j : Nat}

/-- `u` is reached inside an instruction that started in `s`, with the visible registers of `v`: LSR 8 is `i` bytes
down the operand 1 field from `a1`, LSR 9 is `j` bytes down the operand 2 field from `a2`. -/
structure Walking (s v : State) (q : Byte) (a1 a2 : Word) (i j : Nat) (u : State) : Prop where
  underway : Underway s v u q
  lsr8 : u.lsr8 = a1 - BitVec.ofNat 16 i
  lsr9 : u.lsr9 = a2 - BitVec.ofNat 16 j

theorem walking_enterTwo (hm : Memory.wf s.mem = true) (q : Byte) (o1 o2 : Operand) :
    Walking s s q (s.address o1) (s.address o2) 0 0 (s.enterTwo q o1 o2) :=
  ⟨underway_enterTwo s q o1 o2 hm, (BitVec.sub_zero _).symm, (BitVec.sub_zero _).symm⟩

theorem walking_enterDecimal (hm : Memory.wf s.mem = true) (q : Byte) (o1 o2 : Operand) :
    Walking s { s with arr := s.address o1 } q (s.address o1) (s.address o2) 0 0 (s.enterDecimal q o1 o2) :=
  ⟨underway_enterDecimal s q o1 o2 hm, (BitVec.sub_zero _).symm, (BitVec.sub_zero _).symm⟩

/-- The Q-register and the latches may change. -/
theorem Walking.update (h : Walking s v q a1 a2 i j u) (qr : Byte) (f c r k : Bool) :
    Walking s v q a1 a2 i j
      { u with qReg := qr, firstCycle := f, complement := c, recomplement := r, carry := k } :=
  ⟨h.underway.update u.lsr8 u.lsr9 u.msar qr f c r k u.compareHit, h.lsr8, h.lsr9⟩

theorem Walking.endCycle (h : Walking s v q a1 a2 i j u) : Walking s v q a1 a2 i j u.endCycle :=
  h.update u.qReg false u.complement u.recomplement u.carry

theorem Walking.setCarry (h : Walking s v q a1 a2 i j u) (c : Bool) : Walking s v q a1 a2 i j (u.setCarry c) :=
  h.update u.qReg u.firstCycle u.complement u.recomplement c

theorem Walking.countQ (h : Walking s v q a1 a2 i j u) : Walking s v q a1 a2 i j u.countQ := by
  obtain ⟨h8, h9, -⟩ := countQ_leaves u
  exact ⟨h.underway.countQ, h8.trans h.lsr8, h9.trans h.lsr9⟩

theorem Walking.countDecimalQ (h : Walking s v q a1 a2 i j u) : Walking s v q a1 a2 i j u.countDecimalQ := by
  obtain ⟨h8, h9, -⟩ := countDecimalQ_leaves u
  exact ⟨h.underway.countDecimalQ, h8.trans h.lsr8, h9.trans h.lsr9⟩

/-- LSR 8 goes one byte down without a store (R193). -/
theorem Walking.downOp1 (h : Walking s v q a1 a2 i j u) : Walking s v q a1 a2 (i + 1) j u.downOp1 :=
  ⟨h.underway.update (u.lsr8 - 1) u.lsr9 u.msar u.qReg u.firstCycle u.complement u.recomplement u.carry u.compareHit,
    by rw [State.downOp1_lsr8, h.lsr8, sub_ofNat_succ], h.lsr9⟩

theorem Walking.takeOp2 (h : Walking s v q a1 a2 i j u) (hr : s.canRead .op2 (a2 - BitVec.ofNat 16 j) = true) :
    ∃ w, u.takeOp2 = .ok (u.byteAt (s.target .op2 (a2 - BitVec.ofNat 16 j))) w ∧
      Walking s v q a1 a2 i (j + 1) w ∧ w.carry = u.carry ∧ ∀ ra, w.byteAt ra = u.byteAt ra := by
  rw [← h.lsr9] at hr ⊢
  obtain ⟨w, hw, under, h8, h9, hc, hb⟩ := takeOp2_ok h.underway hr
  exact ⟨w, hw, ⟨under, h8.trans h.lsr8, by rw [h9, h.lsr9, sub_ofNat_succ]⟩, hc, hb⟩

theorem Walking.readOp1 (h : Walking s v q a1 a2 i j u) (hr : s.canRead .op1 (a1 - BitVec.ofNat 16 i) = true) :
    ∃ w, u.readOp1 = .ok (u.byteAt (s.op1Cell a1 i)) w ∧ Walking s v q a1 a2 i j w ∧ w.carry = u.carry ∧
      ∀ ra, w.byteAt ra = u.byteAt ra := by
  unfold State.op1Cell
  rw [← h.lsr8] at hr ⊢
  obtain ⟨w, hw, under, h8, h9, hc, hb⟩ := readOp1_ok h.underway hr
  exact ⟨w, hw, ⟨under, h8.trans h.lsr8, h9.trans h.lsr9⟩, hc, hb⟩

theorem Walking.storeOp1 (h : Walking s v q a1 a2 i j u) (b : Byte)
    (hw : s.canWrite .op1 (a1 - BitVec.ofNat 16 i) = true) :
    ∃ w, u.storeOp1 b = .ok () w ∧ Walking s v q a1 a2 (i + 1) j w ∧ w.carry = u.carry ∧
      ∀ ra, w.byteAt ra = Function.update u.byteAt (s.op1Cell a1 i) b ra := by
  simp only [Function.update_apply, State.op1Cell]
  rw [← h.lsr8] at hw ⊢
  obtain ⟨w, hw, under, h8, h9, hc, hb⟩ := storeOp1_ok h.underway b hw
  exact ⟨w, hw, ⟨under, by rw [h8, h.lsr8, sub_ofNat_succ], h9.trans h.lsr9⟩, hc, hb⟩

end Sys2Proof.Machine
end

section
/-! PROOF. `ALC` and `SLC` byte by byte (spec/40_arithmetic.md R160-R162). -/

namespace Sys2Proof.Machine

variable {s u t : State} {sub : Bool} {q : Byte} {o1 o2 : Operand} {a1 a2 : Word} {i k : Nat} {acc : BinAcc}
  {e : StopEvent}

/-! ## One byte -/

/-- The result byte of a cycle of `ALC` or, where `sub`, of `SLC`, and the carry or borrow out of it (R161, R162). -/
def binaryByte (sub : Bool) (x y : Byte) (c : Bool) : Byte × Bool :=
  if sub then (BitVec.ofNat 8 (256 + x.toNat - (y.toNat + c.toNat)), decide (x.toNat < y.toNat + c.toNat))
  else (BitVec.ofNat 8 (x.toNat + y.toNat + c.toNat), decide (256 ≤ x.toNat + y.toNat + c.toNat))

/-- Byte cycle of `ALC` or `SLC`: the carry trigger gets the carry, or the inverse of the borrow (log 16). -/
def binaryCycle (sub : Bool) (_i : Nat) (acc : BinAcc) (s : State) : Res BinAcc :=
  s.countQ.takeOp2.bind fun y s =>
    s.readOp1.bind fun x s =>
      let r := binaryByte sub x y acc.c
      ((s.setCarry (r.2 != sub)).storeOp1 r.1).bind fun _ s => .ok ⟨r.2, acc.nz || r.1 != 0⟩ s.endCycle

theorem alcCycle_eq : alcCycle = binaryCycle false := by
  funext i acc s
  simp only [alcCycle, binaryCycle, binaryByte, Bool.false_eq_true, if_false, Bool.bne_false]

theorem slcCycle_eq : slcCycle = binaryCycle true := by
  have byte (x y : Byte) (c : Bool) : BitVec.ofInt 8 ((x.toNat : Int) - y.toNat - c.toNat) =
      BitVec.ofNat 8 (256 + x.toNat - (y.toNat + c.toNat)) := by
    apply BitVec.eq_of_toNat_eq
    have := y.isLt
    have := c.toNat_le
    rw [BitVec.toNat_ofInt, BitVec.toNat_ofNat]
    omega
  have borrow (x y : Byte) (c : Bool) : decide ((x.toNat : Int) - y.toNat - c.toNat < 0) =
      decide (x.toNat < y.toNat + c.toNat) := decide_eq_decide.mpr (by omega)
  funext i acc s
  simp only [slcCycle, binaryCycle, binaryByte, if_true, Bool.bne_true, byte, borrow]

/-! ## Storage after some bytes -/

/-- Storage, carry or borrow and "some result byte was not zero", as the obligations state them, after `n` bytes. -/
def State.serial (s : State) (sub : Bool) (a1 a2 : Word) (n : Nat) : (RealAddr → Byte) × Bool × Bool :=
  if sub then serialSub s a1 a2 n s.byteAt false false else serialAdd s a1 a2 n s.byteAt false false

/-- One more byte, `n` bytes down both fields. -/
def State.nextByte (s : State) (sub : Bool) (a1 a2 : Word) (n : Nat) (p : (RealAddr → Byte) × Bool × Bool) :
    (RealAddr → Byte) × Bool × Bool :=
  let r := binaryByte sub (p.1 (s.op1Cell a1 n)) (p.1 (s.target .op2 (a2 - BitVec.ofNat 16 n))) p.2.1
  (Function.update p.1 (s.op1Cell a1 n) r.1, r.2, p.2.2 || r.1 != 0)

theorem nextByte_sub_one (s : State) (sub : Bool) (a1 a2 : Word) (n : Nat) :
    s.nextByte sub (a1 - 1) (a2 - 1) n = s.nextByte sub a1 a2 (n + 1) := by
  funext p
  simp only [State.nextByte, State.op1Cell, sub_one_ofNat]

theorem ofNat_ne_zero (n : Nat) : (BitVec.ofNat 8 n != (0 : Byte)) = decide (n % 256 ≠ 0) := by
  rw [Bool.eq_iff_iff, bne_iff_ne, decide_eq_true_eq, ne_eq, ne_eq, ← BitVec.toNat_inj]
  simp

theorem serialAdd_succ (s : State) (a1 a2 : Word) (n : Nat) (m : RealAddr → Byte) (c nz : Bool) :
    serialAdd s a1 a2 (n + 1) m c nz = s.nextByte false a1 a2 n (serialAdd s a1 a2 n m c nz) := by
  induction n generalizing a1 a2 m c nz with
  | zero => simp only [serialAdd, State.nextByte, State.op1Cell, binaryByte, BitVec.sub_zero, ofNat_ne_zero,
      Bool.false_eq_true, if_false]
  | succ n ih => rw [serialAdd, ih, nextByte_sub_one, ← serialAdd]

theorem serialSub_succ (s : State) (a1 a2 : Word) (n : Nat) (m : RealAddr → Byte) (c nz : Bool) :
    serialSub s a1 a2 (n + 1) m c nz = s.nextByte true a1 a2 n (serialSub s a1 a2 n m c nz) := by
  induction n generalizing a1 a2 m c nz with
  | zero => simp only [serialSub, State.nextByte, State.op1Cell, binaryByte, BitVec.sub_zero, ofNat_ne_zero,
      if_true]
  | succ n ih => rw [serialSub, ih, nextByte_sub_one, ← serialSub]

theorem serial_zero (s : State) (sub : Bool) (a1 a2 : Word) : s.serial sub a1 a2 0 = (s.byteAt, false, false) := by
  cases sub <;> rfl

theorem serial_succ (s : State) (sub : Bool) (a1 a2 : Word) (n : Nat) :
    s.serial sub a1 a2 (n + 1) = s.nextByte sub a1 a2 n (s.serial sub a1 a2 n) := by
  cases sub
  · exact serialAdd_succ s a1 a2 n _ _ _
  · exact serialSub_succ s a1 a2 n _ _ _

/-! ## The byte cycles -/

/-- `u` is inside an `ALC` or `SLC` that started in `s`, before cycle `i`. -/
structure Calculating (s : State) (sub : Bool) (q : Byte) (a1 a2 : Word) (i : Nat) (acc : BinAcc) (u : State) :
    Prop where
  walking : Walking s s q a1 a2 i i u
  storage : u.byteAt = (s.serial sub a1 a2 i).1
  found : (acc.c, acc.nz) = (s.serial sub a1 a2 i).2
  carry : 0 < i → u.carry = (acc.c != sub)

theorem calculating_enterTwo (hm : Memory.wf s.mem = true) (sub : Bool) (q : Byte) (o1 o2 : Operand) :
    Calculating s sub q (s.address o1) (s.address o2) 0 ⟨false, false⟩ (s.enterTwo q o1 o2) :=
  ⟨walking_enterTwo hm q o1 o2, by rw [serial_zero]; rfl, by rw [serial_zero], nofun⟩

/-- The read of operand 2 in a cycle. -/
theorem Calculating.takeOp2 (h : Calculating s sub q a1 a2 i acc u)
    (hr : s.canRead .op2 (a2 - BitVec.ofNat 16 i) = true) :
    ∃ w, u.countQ.takeOp2 = .ok ((s.serial sub a1 a2 i).1 (s.target .op2 (a2 - BitVec.ofNat 16 i))) w ∧
      Walking s s q a1 a2 i (i + 1) w ∧ w.byteAt = (s.serial sub a1 a2 i).1 := by
  obtain ⟨-, -, -, hb, -⟩ := countQ_leaves u
  obtain ⟨w, hw, walking, -, hbw⟩ := h.walking.countQ.takeOp2 hr
  rw [hb, h.storage] at hw
  exact ⟨w, hw, walking, (funext fun ra => (hbw ra).trans (hb ra)).trans h.storage⟩

/-- A byte cycle that completes (R160). -/
theorem Calculating.cycle (h : Calculating s sub q a1 a2 i acc u)
    (hr : s.canRead .op2 (a2 - BitVec.ofNat 16 i) = true) (hw : s.canWrite .op1 (a1 - BitVec.ofNat 16 i) = true) :
    ∃ acc' t, binaryCycle sub i acc u = .ok acc' t ∧ Calculating s sub q a1 a2 (i + 1) acc' t := by
  obtain ⟨v, hv, walking, hbv⟩ := h.takeOp2 hr
  obtain ⟨x, hx, walking, -, hbx⟩ := walking.readOp1 (canRead_of_canWrite hw)
  rw [hbv] at hx
  have found := h.found
  obtain ⟨r, hr⟩ : ∃ r, r = binaryByte sub ((s.serial sub a1 a2 i).1 (s.op1Cell a1 i))
    ((s.serial sub a1 a2 i).1 (s.target .op2 (a2 - BitVec.ofNat 16 i))) acc.c := ⟨_, rfl⟩
  obtain ⟨t, ht, walking, hc, hbt⟩ := (walking.setCarry (r.2 != sub)).storeOp1 r.1 hw
  have next : s.serial sub a1 a2 (i + 1) =
      (Function.update (s.serial sub a1 a2 i).1 (s.op1Cell a1 i) r.1, r.2, acc.nz || r.1 != 0) := by
    rw [serial_succ, State.nextByte, ← found, ← hr]
  refine ⟨⟨r.2, acc.nz || r.1 != 0⟩, t.endCycle, ?_, walking.endCycle, ?_, ?_, fun _ => hc⟩
  · simp only [binaryCycle, hv, hx, ← hr, ht, Res.bind_ok]
  · have before : (x.setCarry (r.2 != sub)).byteAt = (s.serial sub a1 a2 i).1 := (funext hbx).trans hbv
    rw [next, ← before]
    exact funext hbt
  · rw [next]

/-- What an `ALC` or `SLC` that fails at byte `k` leaves (R96, R281, R292). -/
structure CalculationFaulted (s : State) (sub : Bool) (a1 a2 : Word) (k : Nat) (e : StopEvent) (t : State) : Prop where
  stopped : StoppedOn s t e
  visible : SameVisible s t
  control : SameControl s t
  storage : t.byteAt = (s.serial sub a1 a2 k).1

theorem Walking.faulted {j : Nat} (h : Walking s s q a1 a2 i j u) (hb : u.byteAt = (s.serial sub a1 a2 k).1)
    (la : Word) (e : StopEvent) : CalculationFaulted s sub a1 a2 k e ((u.setMsar la).stop e) := by
  obtain ⟨stopped, visible, control⟩ := h.underway.stop la e
  exact ⟨stopped, visible, control, hb⟩

/-- A byte cycle whose read of operand 2 fails, or then the read or the store of operand 1 (R90, R96). -/
theorem Calculating.cycle_faults (h : Calculating s sub q a1 a2 k acc u)
    (hf : s.MoveFaults (a1 - BitVec.ofNat 16 k) (a2 - BitVec.ofNat 16 k) e) :
    ∃ t, binaryCycle sub k acc u = .stop t ∧ CalculationFaulted s sub a1 a2 k e t := by
  obtain ⟨-, -, -, hb, -⟩ := countQ_leaves u
  have counted : u.countQ.byteAt = (s.serial sub a1 a2 k).1 := (funext hb).trans h.storage
  obtain hr | ⟨hr, hw⟩ := hf
  · have hs := takeOp2_error h.walking.countQ.underway (h.walking.countQ.lsr9 ▸ hr)
    exact ⟨_, by rw [binaryCycle, hs, Res.bind_stop], h.walking.countQ.faulted counted _ e⟩
  obtain ⟨v, hv, walking, hbv⟩ := h.takeOp2 hr
  obtain hr1 | hr1 := canRead_or_readCheck hw
  · obtain ⟨x, hx, walking, -, hbx⟩ := walking.readOp1 hr1
    obtain ⟨r, hr⟩ : ∃ r, r = binaryByte sub (v.byteAt (s.op1Cell a1 k))
      ((s.serial sub a1 a2 k).1 (s.target .op2 (a2 - BitVec.ofNat 16 k))) acc.c := ⟨_, rfl⟩
    have carried := walking.setCarry (r.2 != sub)
    have hs := storeOp1_error carried.underway r.1 (carried.lsr8 ▸ hw)
    exact ⟨_, by simp only [binaryCycle, hv, hx, ← hr, hs, Res.bind_ok, Res.bind_stop],
      carried.faulted ((funext hbx).trans hbv) (x.setCarry (r.2 != sub)).lsr8 e⟩
  · have hs : v.readOp1 = .stop ((v.setMsar v.lsr8).stop e) :=
      readAt_error walking.underway.checks (walking.lsr8 ▸ hr1)
    exact ⟨_, by rw [binaryCycle, hv, Res.bind_ok, hs, Res.bind_stop], walking.faulted hbv _ e⟩

/-! ## The whole instruction -/

/-- The PSR after `ALC` or `SLC`, in the codes of the obligations (R161, R162; decisions D3, D23). -/
def binaryPsr (sub : Bool) (p : Byte) (zero c : Bool) : Byte :=
  if sub then withCondition p (conditionOf zero c) else withSum p zero c

/-- `ALC` or `SLC` from its first byte cycle to the setting of the PSR. -/
def binaryRun (sub : Bool) (q : Byte) (s : State) : Res Unit :=
  (loop (binaryCycle sub) (fieldLength q) 0 ⟨false, false⟩ s).bind fun acc s =>
    .ok () (s.setPsr (binaryPsr sub s.psr (!acc.nz) acc.c))

/-- `SLC` sets one condition: a borrow comes with a result that is not zero. -/
theorem setCondition_borrow : ∀ p nz c, (c = true → nz = true) →
    setCondition p (nz && !c) c (!nz) = withCondition p (conditionOf (!nz) c) := by
  decide +kernel

theorem alcRun_eq (q : Byte) (s : State) : alcRun q s = binaryRun false q s := by
  rw [alcRun, alcCycle_eq]
  simp only [setSum_eq]
  rfl

theorem slcRun_eq (q : Byte) (s : State) : slcRun q s = binaryRun true q s := by
  rw [slcRun, binaryRun, ← slcCycle_eq]
  cases hl : loop slcCycle (fieldLength q) 0 ⟨false, false⟩ s with
  | stop t => rfl
  | ok acc t =>
    have borrow := loop_value (I := fun acc => acc.c = true → acc.nz = true) slcCycle_borrow hl nofun
    rw [Res.bind_ok, Res.bind_ok, setCondition_borrow _ _ _ borrow]
    rfl

theorem exec_binary (sub : Bool) (q : Byte) (o1 o2 : Operand) (s : State) :
    exec (Form.two (if sub then .slc else .alc) q o1 o2).instr s =
      .next (binaryRun sub q (s.enterTwo q o1 o2)).state := by
  rw [exec_instr]
  cases sub
  · exact congrArg Res.outcome (alcRun_eq q _)
  · exact congrArg Res.outcome (slcRun_eq q _)

/-- What a completed `ALC` or `SLC` leaves: `r` is the storage, the carry or borrow and whether a result byte was not
zero. -/
structure Calculated (s : State) (sub : Bool) (q : Byte) (r : (RealAddr → Byte) × Bool × Bool) (t : State) :
    Prop where
  underway : Underway s { s with psr := binaryPsr sub s.psr (!r.2.2) r.2.1 } t q
  storage : t.byteAt = r.1
  carry : t.carry = (r.2.1 != sub)

theorem binary_completes (hm : Memory.wf s.mem = true)
    (hread : s.FieldReadable .op2 (s.address o2) (q.toNat + 1))
    (hwrite : s.FieldWritable (s.address o1) (q.toNat + 1)) :
    ∃ t, exec (Form.two (if sub then .slc else .alc) q o1 o2).instr s = .next t ∧
      Calculated s sub q (s.serial sub (s.address o1) (s.address o2) (q.toNat + 1)) t := by
  obtain ⟨acc, u, hu, done⟩ := loop_ok
    (inv := fun i acc u => Calculating s sub q (s.address o1) (s.address o2) i acc u)
    (body := binaryCycle sub) (fieldLength q) 0 ⟨false, false⟩
    (fun i acc u _ hi hu => by
      rw [Nat.zero_add] at hi
      exact hu.cycle (hread i hi) (hwrite i hi))
    (calculating_enterTwo hm sub q o1 o2)
  rw [Nat.zero_add] at done
  obtain ⟨walking, storage, found, carry⟩ : Calculating s sub q _ _ (q.toNat + 1) acc u := done
  obtain ⟨-, -, -, -, psr, -⟩ := id walking.underway.visible
  refine ⟨u.setPsr (binaryPsr sub u.psr (!acc.nz) acc.c), by rw [exec_binary, binaryRun, hu, Res.bind_ok, Res.state_ok],
    ?_, storage, ?_⟩
  · rw [← found, psr]
    exact walking.underway.setPsr _
  · rw [← found]
    exact carry (Nat.succ_pos _)

theorem binary_faults (hm : Memory.wf s.mem = true) (hk : k < q.toNat + 1)
    (hread : s.FieldReadable .op2 (s.address o2) k) (hwrite : s.FieldWritable (s.address o1) k)
    (hf : s.MoveFaults (s.address o1 - BitVec.ofNat 16 k) (s.address o2 - BitVec.ofNat 16 k) e) :
    ∃ t, exec (Form.two (if sub then .slc else .alc) q o1 o2).instr s = .next t ∧
      CalculationFaulted s sub (s.address o1) (s.address o2) k e t := by
  obtain ⟨m, hlength⟩ : ∃ m, fieldLength q = k + (m + 1) := ⟨q.toNat - k, by unfold fieldLength; omega⟩
  obtain ⟨t, ht, faulted⟩ := loop_stop
    (inv := fun i acc u => Calculating s sub q (s.address o1) (s.address o2) i acc u)
    (body := binaryCycle sub) (Q := CalculationFaulted s sub (s.address o1) (s.address o2) k e) k m 0 ⟨false, false⟩
    (fun i acc u _ hi hu => by
      rw [Nat.zero_add] at hi
      exact hu.cycle (hread i hi) (hwrite i hi))
    (fun acc u hu => by rw [Nat.zero_add] at hu ⊢; exact hu.cycle_faults hf)
    (calculating_enterTwo hm sub q o1 o2)
  exact ⟨t, by rw [exec_binary, binaryRun, hlength, ht, Res.bind_stop, Res.state_stop], faulted⟩

/-- Settles O51: all byte cycles complete, or those before the one that faults. -/
theorem alcSlcByteSerial : Obligations.AlcSlcByteSerial := by
  intro q o1 o2 s hm a1 a2 sums differences
  refine ⟨fun hread hwrite => ⟨?_, ?_⟩, fun k e hk hread hwrite hf => ⟨?_, ?_⟩⟩
  · obtain ⟨t, ht, under, storage, carry⟩ := binary_completes (sub := false) hm hread hwrite
    exact ⟨t, ht, under.completes, congrFun storage, carry.trans (Bool.bne_false _), under.visible⟩
  · obtain ⟨t, ht, under, storage, carry⟩ := binary_completes (sub := true) hm hread hwrite
    exact ⟨t, ht, under.completes, congrFun storage, carry.trans (Bool.bne_true _), under.visible⟩
  · obtain ⟨t, ht, stopped, visible, control, storage⟩ := binary_faults (sub := false) hm hk hread hwrite hf
    exact ⟨t, ht, stopped, visible, control, congrFun storage⟩
  · obtain ⟨t, ht, stopped, visible, control, storage⟩ := binary_faults (sub := true) hm hk hread hwrite hf
    exact ⟨t, ht, stopped, visible, control, congrFun storage⟩

end Sys2Proof.Machine
end

section
/-! PROOF. `ALC` and `SLC` on fields whose source bytes are read before they are stored over: the fields as binary
numbers (spec/40_arithmetic.md R161, R162). -/

namespace Sys2Proof.Machine

variable {s t : State} {sub : Bool} {q : Byte} {o1 o2 : Operand} {a1 a2 : Word} {l n b x y w b' x' y' w' : Nat}
  {f g : Nat → Byte} {c c' : Bool}

/-! ## A field as a binary number (R71) -/

/-- The number of `n` bytes, byte 0 the rightmost. -/
def binaryNumber (f : Nat → Byte) (n : Nat) : Nat := ∑ j ∈ Finset.range n, (f j).toNat * 256 ^ j

@[simp] theorem binaryNumber_zero (f : Nat → Byte) : binaryNumber f 0 = 0 := rfl

theorem binaryNumber_succ (f : Nat → Byte) (n : Nat) :
    binaryNumber f (n + 1) = binaryNumber f n + (f n).toNat * 256 ^ n :=
  Finset.sum_range_succ _ n

theorem binaryNumber_congr (h : ∀ j < n, f j = g j) : binaryNumber f n = binaryNumber g n :=
  Finset.sum_congr rfl fun j hj => by rw [h j (Finset.mem_range.mp hj)]

theorem binaryNumber_lt (f : Nat → Byte) (n : Nat) : binaryNumber f n < 256 ^ n := by
  induction n with
  | zero => simp
  | succ n ih =>
    have byte : (f n).toNat ≤ 255 := Nat.le_of_lt_succ (f n).isLt
    have := Nat.mul_le_mul_right (256 ^ n) byte
    rw [binaryNumber_succ, pow_succ]
    omega

/-- A byte that is not zero, so far and in one more cycle. -/
theorem binaryNumber_succ_ne_zero (f : Nat → Byte) (n : Nat) :
    decide (binaryNumber f (n + 1) ≠ 0) = (decide (binaryNumber f n ≠ 0) || f n != 0) := by
  have byte : (f n).toNat = 0 ↔ f n = 0 := by rw [← BitVec.toNat_inj]; rfl
  rw [Bool.eq_iff_iff, binaryNumber_succ]
  by_cases h : f n = 0 <;> simp [h, byte]

theorem fieldNat_eq (s : State) (k : Kind) (a : Word) (n : Nat) :
    s.fieldNat k a n = binaryNumber (fun j => s.peek k (a - BitVec.ofNat 16 j)) n := by
  induction n generalizing a with
  | zero => rfl
  | succ n ih =>
    rw [State.fieldNat, ih, binaryNumber, binaryNumber, Finset.sum_range_succ', Finset.mul_sum]
    simp only [sub_one_ofNat, BitVec.sub_zero, pow_succ, pow_zero, mul_one]
    rw [Nat.add_comm]
    exact congrArg (· + _) (Finset.sum_congr rfl fun j _ => by ring)

/-! ## Sum and difference with the carry counted -/

/-- `b` is the sum of `x` and `y` or, where `sub`, their difference, with the carry or borrow `c` out of the weight
`w`. -/
def Balanced (sub : Bool) (b x y w : Nat) (c : Bool) : Prop :=
  if sub then b + y = x + w * c.toNat else b + w * c.toNat = x + y

theorem binaryByte_balanced (sub : Bool) (x y : Byte) (c : Bool) :
    Balanced sub (binaryByte sub x y c).1.toNat x.toNat (y.toNat + c.toNat) 256 (binaryByte sub x y c).2 := by
  have := x.isLt
  have := y.isLt
  have := c.toNat_le
  cases sub
  · by_cases hc : 256 ≤ x.toNat + y.toNat + c.toNat <;> simp [Balanced, binaryByte, hc] <;> omega
  · by_cases hc : x.toNat < y.toNat + c.toNat <;> simp [Balanced, binaryByte, hc] <;> omega

/-- A number and its next byte to the left, which takes the carry. -/
theorem Balanced.append (h : Balanced sub b x y w c) (h' : Balanced sub b' x' (y' + c.toNat) w' c') :
    Balanced sub (b + b' * w) (x + x' * w) (y + y' * w) (w * w') c' := by
  cases sub
  · have h' : b' + w' * c'.toNat = x' + (y' + c.toNat) := h'
    have h : b + w * c.toNat = x + y := h
    change b + b' * w + w * w' * c'.toNat = x + x' * w + (y + y' * w)
    linear_combination h + w * h'
  · have h' : b' + (y' + c.toNat) = x' + w' * c'.toNat := h'
    have h : b + y = x + w * c.toNat := h
    change b + b' * w + (y + y' * w) = x + x' * w + w * w' * c'.toNat
    linear_combination h + w * h'

/-- A sum modulo the weight, and its carry (R161). -/
theorem Balanced.sum (h : Balanced false b x y w c) (hb : b < w) : b = (x + y) % w ∧ c = decide (w ≤ x + y) := by
  have h : b + w * c.toNat = x + y := h
  rw [← h]
  cases c
  · simp [Nat.mod_eq_of_lt hb, hb]
  · simp [Nat.mod_eq_of_lt hb]

/-- A difference modulo the weight, and its borrow (R162). -/
theorem Balanced.difference (h : Balanced true b x y w c) (hb : b < w) (hy : y < w) :
    b = (x + w - y) % w ∧ c = decide (x < y) ∧ (b = 0 ↔ x = y) := by
  have h : b + y = x + w * c.toNat := h
  cases c
  · have h : b + y = x := by simpa using h
    have : x + w - y = b + w := by omega
    rw [this, Nat.add_mod_right, Nat.mod_eq_of_lt hb]
    exact ⟨rfl, (decide_eq_false (by omega)).symm, by omega⟩
  · have h : b + y = x + w := by simpa using h
    have : x + w - y = b := by omega
    rw [this, Nat.mod_eq_of_lt hb]
    exact ⟨rfl, (decide_eq_true (by omega)).symm, by omega⟩

/-! ## The fields -/

/-- After `n` bytes, only these have changed in storage, and they hold the sum or difference of the two fields'
rightmost `n` bytes. -/
structure SerialBalanced (s : State) (sub : Bool) (a1 a2 : Word) (n : Nat) (r : (RealAddr → Byte) × Bool × Bool) :
    Prop where
  rest : ∀ ra, (∀ j < n, ra ≠ s.op1Cell a1 j) → r.1 ra = s.byteAt ra
  nonzero : r.2.2 = decide (binaryNumber (fun j => r.1 (s.op1Cell a1 j)) n ≠ 0)
  balanced : Balanced sub (binaryNumber (fun j => r.1 (s.op1Cell a1 j)) n) (s.fieldNat .op1 a1 n)
    (s.fieldNat .op2 a2 n) (256 ^ n) r.2.1

theorem serialBalanced_zero (s : State) (sub : Bool) (a1 a2 : Word) :
    SerialBalanced s sub a1 a2 0 (s.byteAt, false, false) :=
  ⟨fun _ _ => rfl, by simp, by cases sub <;> rfl⟩

/-- One more byte, which finds both source bytes as they were at the start (R192). -/
theorem SerialBalanced.next {r : (RealAddr → Byte) × Bool × Bool} (h : SerialBalanced s sub a1 a2 n r)
    (hd : ∀ j < n, s.op1Cell a1 j ≠ s.op1Cell a1 n)
    (hk : ∀ j < n, s.op1Cell a1 j ≠ s.target .op2 (a2 - BitVec.ofNat 16 n)) :
    SerialBalanced s sub a1 a2 (n + 1) (s.nextByte sub a1 a2 n r) := by
  obtain ⟨rest, nonzero, balanced⟩ := h
  have source1 : r.1 (s.op1Cell a1 n) = s.peek .op1 (a1 - BitVec.ofNat 16 n) := rest _ fun j hj => (hd j hj).symm
  have source2 : r.1 (s.target .op2 (a2 - BitVec.ofNat 16 n)) = s.peek .op2 (a2 - BitVec.ofNat 16 n) :=
    rest _ fun j hj => (hk j hj).symm
  rw [State.nextByte, source1, source2]
  have byte := binaryByte_balanced sub (s.peek .op1 (a1 - BitVec.ofNat 16 n))
    (s.peek .op2 (a2 - BitVec.ofNat 16 n)) r.2.1
  generalize binaryByte sub _ _ r.2.1 = p at byte ⊢
  have before : binaryNumber (fun j => Function.update r.1 (s.op1Cell a1 n) p.1 (s.op1Cell a1 j)) n =
      binaryNumber (fun j => r.1 (s.op1Cell a1 j)) n :=
    binaryNumber_congr fun j hj => Function.update_of_ne (hd j hj) _ _
  refine ⟨fun ra hra => ?_, ?_, ?_⟩
  · exact (Function.update_of_ne (hra n (Nat.lt_succ_self n)) _ _).trans
      (rest ra fun j hj => hra j (Nat.lt_succ_of_lt hj))
  · simp only [binaryNumber_succ_ne_zero, before, Function.update_self, nonzero]
  · simp only [fieldNat_eq] at balanced
    simp only [fieldNat_eq, binaryNumber_succ, before, Function.update_self, pow_succ]
    exact balanced.append byte

theorem serialBalanced (sub : Bool) (hd : s.FieldDistinct a1 l) (hk : s.SourceKept a1 l a2 l) (hn : n ≤ l) :
    SerialBalanced s sub a1 a2 n (s.serial sub a1 a2 n) := by
  induction n with
  | zero => rw [serial_zero]; exact serialBalanced_zero s sub a1 a2
  | succ n ih =>
    rw [serial_succ]
    exact (ih (by omega)).next (fun j hj he => absurd (hd j (by omega) n hn he) (by omega))
      fun j hj => hk n hn j hj (by omega)

theorem fieldNat_lt (s : State) (k : Kind) (a : Word) (n : Nat) : s.fieldNat k a n < 256 ^ n :=
  fieldNat_eq s k a n ▸ binaryNumber_lt _ n

/-- What a completed `ALC` or `SLC` leaves in the operand 1 field, as a number (R161, R162). -/
theorem binary_field (hm : Memory.wf s.mem = true) (hread : s.FieldReadable .op2 (s.address o2) (q.toNat + 1))
    (hwrite : s.FieldWritable (s.address o1) (q.toNat + 1)) (hd : s.FieldDistinct (s.address o1) (q.toNat + 1))
    (hk : s.SourceKept (s.address o1) (q.toNat + 1) (s.address o2) (q.toNat + 1)) :
    ∃ t c, exec (Form.two (if sub then .slc else .alc) q o1 o2).instr s = .next t ∧ Completes s t q ∧
      OnlyField s t (s.address o1) (q.toNat + 1) ∧
      Balanced sub (t.fieldNat .op1 (s.address o1) (q.toNat + 1)) (s.fieldNat .op1 (s.address o1) (q.toNat + 1))
        (s.fieldNat .op2 (s.address o2) (q.toNat + 1)) (256 ^ (q.toNat + 1)) c ∧
      SameVisible
        { s with psr := binaryPsr sub s.psr (decide (t.fieldNat .op1 (s.address o1) (q.toNat + 1) = 0)) c } t := by
  obtain ⟨t, ht, under, storage, -⟩ := binary_completes (sub := sub) hm hread hwrite
  obtain ⟨rest, nonzero, balanced⟩ := serialBalanced sub hd hk (Nat.le_refl _)
  have result : t.fieldNat .op1 (s.address o1) (q.toNat + 1) = _ :=
    (fieldNat_eq t _ _ _).trans (binaryNumber_congr fun j _ =>
      (peek_eq under.checks .op1 _).trans (congrFun storage (s.op1Cell (s.address o1) j)))
  have visible := under.visible
  rw [nonzero, decide_not, Bool.not_not, ← result] at visible
  exact ⟨t, _, ht, under.completes, fun ra hra => (congrFun storage ra).trans (rest ra hra), result ▸ balanced, visible⟩

/-- Settles O52: a sum modulo the weight of the field. -/
theorem alcAddsBinaryFields : Obligations.AlcAddsBinaryFields := by
  intro q o1 o2 s hm hread hwrite hd hk sum
  obtain ⟨t, c, ht, completes, only, balanced, visible⟩ := binary_field (sub := false) hm hread hwrite hd hk
  obtain ⟨result, rfl⟩ := balanced.sum (fieldNat_lt t _ _ _)
  rw [result] at visible
  exact ⟨t, ht, completes, only, result, visible⟩

/-- Settles O53: a difference modulo the weight of the field. -/
theorem slcSubtractsBinaryFields : Obligations.SlcSubtractsBinaryFields := by
  intro q o1 o2 s hm hread hwrite hd hk x y
  obtain ⟨t, c, ht, completes, only, balanced, visible⟩ := binary_field (sub := true) hm hread hwrite hd hk
  obtain ⟨result, rfl, zero⟩ := balanced.difference (fieldNat_lt t _ _ _) (fieldNat_lt s _ _ _)
  rw [decide_eq_decide.mpr zero] at visible
  exact ⟨t, ht, completes, only, result, visible⟩

end Sys2Proof.Machine
end

section
/-! PROOF. `ZAZ`, `AZ`, `SZ` and `ED` on any bytes and with any overlap (spec/40_arithmetic.md R150-R158,
spec/41_data_control.md R193). -/

namespace Sys2Proof.Machine

variable {s t u v : State} {q : Byte} {o1 o2 : Operand} {a a1 a2 : Word} {i j l2 n : Nat}

/-- Stores at the addresses of a field are stores in the field. -/
theorem OnlyStored.onlyField (h : OnlyStored s (fieldDown a n) t) : OnlyField s t a n := by
  intro ra hra
  refine h.storage ra fun la hla hc => ?_
  obtain ⟨i, hi, rfl⟩ := List.mem_map.mp hla
  exact hra i (List.mem_range.mp hi) (realOf_ok (writeCheck_ok hc).1).1

theorem exec_onlyField {op : TwoOp} (hm : Memory.wf s.mem = true)
    (hexec : exec (Form.two op q o1 o2).instr s = .next t)
    (hA : s.storedAt (.two op q o1 o2) = fieldDown (s.address o1) n) : OnlyField s t (s.address o1) n := by
  rw [exec_instr] at hexec
  exact OnlyStored.onlyField (hA ▸ twoForm_onlyStored hm hexec)

/-! ## The first pass of a decimal instruction (R153-R155) -/

/-- The operand 2 byte of a cycle, where there is one (R155). -/
theorem Walking.takeDigit2 (h : Walking s v q a1 a2 i (min i l2) u)
    (hr : i < l2 → s.canRead .op2 (a2 - BitVec.ofNat 16 i) = true) :
    ∃ y w, Machine.takeDigit2 l2 i u = .ok y w ∧ Walking s v q a1 a2 i (min (i + 1) l2) w := by
  unfold Machine.takeDigit2
  by_cases hi : i < l2
  · rw [Nat.min_eq_left (Nat.le_of_lt hi)] at h
    obtain ⟨w, hw, walking, -⟩ := h.takeOp2 (hr hi)
    rw [if_pos hi, Nat.min_eq_left hi]
    exact ⟨_, w, hw, walking⟩
  · rw [Nat.min_eq_right (by omega)] at h
    rw [if_neg hi, Nat.min_eq_right (by omega)]
    exact ⟨_, u, rfl, h⟩

theorem Walking.zazCycle (h : Walking s v q a1 a2 i (min i l2) u)
    (hr : i < l2 → s.canRead .op2 (a2 - BitVec.ofNat 16 i) = true)
    (hw : s.canWrite .op1 (a1 - BitVec.ofNat 16 i) = true) (acc : ZazAcc) :
    ∃ acc' t, Machine.zazCycle l2 i acc u = .ok acc' t ∧ Walking s v q a1 a2 (i + 1) (min (i + 1) l2) t := by
  unfold Machine.zazCycle
  by_cases hi : i < l2
  · have before := h.countDecimalQ
    rw [Nat.min_eq_left (Nat.le_of_lt hi)] at before
    obtain ⟨w, hy, walking, -⟩ := before.takeOp2 (hr hi)
    obtain ⟨t, ht, walking, -⟩ := walking.storeOp1 _ hw
    simp only [if_pos hi, hy, Res.bind_ok]
    rw [ht, Nat.min_eq_left hi]
    exact ⟨_, _, rfl, walking.endCycle⟩
  · have before := h.countDecimalQ
    rw [Nat.min_eq_right (by omega)] at before
    obtain ⟨t, ht, walking, -⟩ := before.storeOp1 0xF0 hw
    simp only [if_neg hi, ht, Res.bind_ok]
    rw [Nat.min_eq_right (by omega)]
    exact ⟨_, _, rfl, walking.endCycle⟩

theorem Walking.addCycle (h : Walking s v q a1 a2 i (min i l2) u)
    (hr : i < l2 → s.canRead .op2 (a2 - BitVec.ofNat 16 i) = true)
    (hw : s.canWrite .op1 (a1 - BitVec.ofNat 16 i) = true) (sub : Bool) (acc : AddAcc) :
    ∃ acc' t, Machine.addCycle sub l2 i acc u = .ok acc' t ∧ Walking s v q a1 a2 (i + 1) (min (i + 1) l2) t := by
  obtain ⟨y, w, hy, walking⟩ := h.countDecimalQ.takeDigit2 hr
  obtain ⟨x, hx, walking, -⟩ := walking.readOp1 (canRead_of_canWrite hw)
  unfold Machine.addCycle
  simp only [hy, hx, Res.bind_ok]
  have latched c k : Walking s v q a1 a2 i (min (i + 1) l2) ((x.raiseComplement c).setCarry k) :=
    walking.update x.qReg x.firstCycle (x.complement || c) x.recomplement k
  obtain ⟨t, ht, walking, -⟩ := (latched _ _).storeOp1 _ hw
  rw [ht]
  exact ⟨_, _, rfl, walking.endCycle⟩

/-- A pass of a decimal instruction all of whose cycles step down both fields completes. -/
theorem decimalPass_completes {α : Type} {body : Nat → α → State → Res α} {l1 : Nat} (hm : Memory.wf s.mem = true)
    (q : Byte) (o1 o2 : Operand) (hread : s.FieldReadable .op2 (s.address o2) l2)
    (hwrite : s.FieldWritable (s.address o1) l1) (acc : α)
    (hbody : ∀ {i u} acc, Walking s { s with arr := s.address o1 } q (s.address o1) (s.address o2) i (min i l2) u →
      (i < l2 → s.canRead .op2 (s.address o2 - BitVec.ofNat 16 i) = true) →
      s.canWrite .op1 (s.address o1 - BitVec.ofNat 16 i) = true →
      ∃ acc' t, body i acc u = .ok acc' t ∧
        Walking s { s with arr := s.address o1 } q (s.address o1) (s.address o2) (i + 1) (min (i + 1) l2) t) :
    ∃ acc' u, loop body l1 0 acc (s.enterDecimal q o1 o2) = .ok acc' u ∧
      Underway s { s with arr := s.address o1 } u q := by
  obtain ⟨acc', u, hu, walking⟩ := loop_ok
    (inv := fun i _ u => Walking s { s with arr := s.address o1 } q (s.address o1) (s.address o2) i (min i l2) u)
    (body := body) l1 0 acc
    (fun i acc u _ hi hu => hbody acc hu (hread i) (hwrite i (by rwa [Nat.zero_add] at hi)))
    (by rw [Nat.zero_min]; exact walking_enterDecimal hm q o1 o2)
  exact ⟨acc', u, hu, walking.underway⟩

/-! ## The recomplement cycles (R157) -/

theorem Underway.clearNegativeZero (h : Underway s v u q) (hw : s.canWrite .op1 v.arr = true) :
    ∃ t, u.clearNegativeZero = .ok () t ∧ Underway s { v with arr := v.arr - 1 } t q := by
  have started : Underway s v u.startRecomplement q :=
    h.update u.lsr8 u.lsr9 u.msar u.qBackup u.firstCycle true true u.carry u.compareHit
  obtain ⟨-, -, -, arr, -⟩ := id started.visible
  rw [← arr] at hw ⊢
  obtain ⟨w, hr, under, -⟩ := takeArr_ok started (canRead_of_canWrite hw)
  rw [State.clearNegativeZero, hr, Res.bind_ok]
  obtain ⟨t, ht, under, -⟩ := writeAt_op1_ok (under.setCarry _) _ _ hw
  exact ⟨t, ht, under⟩

theorem Underway.recomplementCycle (h : Underway s v u q) (hw : s.canWrite .op1 v.arr = true) (n1 : Bool) (i : Nat)
    (acc : RecompAcc) :
    ∃ acc' t, Machine.recomplementCycle n1 i acc u = .ok acc' t ∧ Underway s { v with arr := v.arr - 1 } t q := by
  have counted : Underway s v (if i = 0 then u else { u with qReg := countNibbles u.qReg }) q := by
    split
    · exact h
    · exact h.update u.lsr8 u.lsr9 u.msar (countNibbles u.qReg) u.firstCycle u.complement u.recomplement u.carry
        u.compareHit
  obtain ⟨-, -, -, arr, -⟩ := id counted.visible
  rw [← arr] at hw ⊢
  obtain ⟨w, hr, under, -⟩ := takeArr_ok counted (canRead_of_canWrite hw)
  simp only [Machine.recomplementCycle, hr, Res.bind_ok]
  obtain ⟨t, ht, under, -⟩ := writeAt_op1_ok (under.setCarry _) _ _ hw
  rw [ht]
  exact ⟨_, t, rfl, under⟩

theorem Underway.recomplementPass (h : Underway s { v with arr := a } u q) (hw : s.FieldWritable a n) (n1 : Bool) :
    ∃ acc t, loop (Machine.recomplementCycle n1) n 0 ⟨false, false⟩ u.startRecomplement = .ok acc t ∧
      Underway s { v with arr := a - BitVec.ofNat 16 n } t q := by
  obtain ⟨acc, t, ht, under⟩ := loop_ok (inv := fun i _ u => Underway s { v with arr := a - BitVec.ofNat 16 i } u q)
    (body := Machine.recomplementCycle n1) n 0 ⟨false, false⟩
    (fun i acc u _ hi hu => by
      obtain ⟨acc', t, ht, under⟩ := hu.recomplementCycle (hw i (by omega)) n1 i acc
      exact ⟨acc', t, ht, sub_ofNat_succ a i ▸ under⟩)
    (by
      rw [BitVec.sub_zero]
      exact h.update u.lsr8 u.lsr9 u.msar u.qBackup u.firstCycle true true u.carry u.compareHit)
  rw [Nat.zero_add] at under
  exact ⟨acc, t, ht, under⟩

/-! ## The end of a decimal instruction (R158) -/

/-- Exactly one of High, Low and Equal is on in `p'`; Test false and Binary overflow are those of `p` (R158). -/
abbrev OneConditionSet (p p' : Byte) : Prop :=
  p' &&& 0xF0 = p &&& 0xF0 ∧ (p' &&& 0x07 = 0x01 ∨ p' &&& 0x07 = 0x02 ∨ p' &&& 0x07 = 0x04)

/-- With Decimal overflow turned on before, or not. -/
theorem oneConditionSet_setResult : ∀ p nz low,
    OneConditionSet p (setResult p nz low) ∧ OneConditionSet p (setResult (setFlag p psrDO true) nz low) := by
  decide +kernel

/-- A decimal instruction has been completed, and has set one condition. -/
def DecimalDone (s : State) (q : Byte) (t : State) : Prop :=
  (∃ a, Underway s { s with psr := t.psr, arr := a } t q) ∧ OneConditionSet s.psr t.psr

theorem decimalDone_setResult {p : Byte} (h : Underway s { s with psr := p, arr := a } u q)
    (hp : p = s.psr ∨ p = setFlag s.psr psrDO true) (nz low : Bool) :
    DecimalDone s q (u.setPsr (setResult u.psr nz low)) := by
  obtain ⟨-, -, -, -, psr, -⟩ := id h.visible
  refine ⟨⟨a, h.setPsr _⟩, ?_⟩
  rw [State.setPsr_psr, psr]
  obtain rfl | rfl := hp
  · exact (oneConditionSet_setResult _ nz low).1
  · exact (oneConditionSet_setResult _ nz low).2

theorem zazRun_completes (hm : Memory.wf s.mem = true) (hread : s.FieldReadable .op2 (s.address o2) (length2 q))
    (hwrite : s.FieldWritable (s.address o1) (length1 q)) :
    ∃ t, zazRun q (s.enterDecimal q o1 o2) = .ok () t ∧ DecimalDone s q t := by
  obtain ⟨acc, u, hu, under⟩ := decimalPass_completes hm q o1 o2 hread hwrite ⟨false, false⟩
    fun acc h hr hw => h.zazCycle hr hw acc
  have top := hwrite 0 (length1_pos q)
  rw [BitVec.sub_zero] at top
  rw [zazRun, hu, Res.bind_ok]
  split
  · obtain ⟨t, ht, under⟩ := under.clearNegativeZero top
    rw [ht]
    exact ⟨_, rfl, decimalDone_setResult under (.inl rfl) _ _⟩
  · exact ⟨_, rfl, decimalDone_setResult under (.inl rfl) _ _⟩

theorem settleAdd_completes {l1 : Nat} (h : Underway s { s with arr := a } u q) (hw : s.FieldWritable a l1)
    (hl : 0 < l1) (acc : AddAcc) : ∃ t, settleAdd l1 acc u = .ok () t ∧ DecimalDone s q t := by
  have top := hw 0 hl
  rw [BitVec.sub_zero] at top
  obtain ⟨p, hp, flagged⟩ : ∃ p, (p = s.psr ∨ p = setFlag s.psr psrDO true) ∧
      Underway s { s with psr := p, arr := a }
        (if !acc.comp && acc.c then u.setPsr (setFlag u.psr psrDO true) else u) q := by
    obtain ⟨-, -, -, -, psr, -⟩ := id h.visible
    split
    · exact ⟨_, .inr rfl, psr ▸ h.setPsr _⟩
    · exact ⟨_, .inl rfl, h⟩
  unfold settleAdd finishAdd
  generalize (if !acc.comp && acc.c then u.setPsr (setFlag u.psr psrDO true) else u) = w at flagged ⊢
  simp only []
  split
  · obtain ⟨r, t, ht, under⟩ := flagged.recomplementPass (v := { s with psr := p }) hw acc.n1
    rw [ht]
    exact ⟨_, rfl, decimalDone_setResult under hp _ _⟩
  · split
    · obtain ⟨t, ht, under⟩ := flagged.clearNegativeZero top
      rw [ht]
      exact ⟨_, rfl, decimalDone_setResult under hp _ _⟩
    · exact ⟨_, rfl, decimalDone_setResult flagged hp _ _⟩

theorem zonedAddSub_completes (hm : Memory.wf s.mem = true)
    (hread : s.FieldReadable .op2 (s.address o2) (length2 q)) (hwrite : s.FieldWritable (s.address o1) (length1 q))
    (sub : Bool) : ∃ t, zonedAddSub sub q (s.enterDecimal q o1 o2) = .ok () t ∧ DecimalDone s q t := by
  obtain ⟨acc, u, hu, under⟩ := decimalPass_completes hm q o1 o2 hread hwrite ⟨false, false, false, false⟩
    fun acc h hr hw => h.addCycle hr hw sub acc
  rw [zonedAddSub, hu, Res.bind_ok]
  exact settleAdd_completes under hwrite (length1_pos q) acc

/-- The decimal instructions complete, in the operand 1 field (R150). -/
theorem decimal_completes {op : TwoOp} (hop : op = .zaz ∨ op = .az ∨ op = .sz) (hm : Memory.wf s.mem = true)
    (hread : s.FieldReadable .op2 (s.address o2) (length2 q)) (hwrite : s.FieldWritable (s.address o1) (length1 q)) :
    ∃ t, exec (Form.two op q o1 o2).instr s = .next t ∧ DecimalDone s q t ∧
      OnlyField s t (s.address o1) (length1 q) := by
  obtain ⟨t, hexec, done⟩ : ∃ t, exec (Form.two op q o1 o2).instr s = .next t ∧ DecimalDone s q t := by
    rw [exec_instr]
    obtain rfl | rfl | rfl := hop
    · obtain ⟨t, ht, done⟩ := zazRun_completes hm hread hwrite
      exact ⟨t, congrArg Res.outcome ht, done⟩
    · obtain ⟨t, ht, done⟩ := zonedAddSub_completes hm hread hwrite false
      exact ⟨t, congrArg Res.outcome ht, done⟩
    · obtain ⟨t, ht, done⟩ := zonedAddSub_completes hm hread hwrite true
      exact ⟨t, congrArg Res.outcome ht, done⟩
  exact ⟨t, hexec, done, exec_onlyField hm hexec (by obtain rfl | rfl | rfl := hop <;> rfl)⟩

/-! ## `ED` (R193, R194) -/

theorem Walking.takeDigit (h : Walking s v q a1 a2 i j u) (hr : s.canRead .op2 (a2 - BitVec.ofNat 16 j) = true)
    (acc : EditAcc) :
    ∃ acc' w j', Machine.takeDigit i acc u = .ok acc' w ∧ j' ≤ j + 1 ∧ Walking s v q a1 a2 i j' w ∧
      w.carry = u.carry := by
  unfold Machine.takeDigit
  split
  · obtain ⟨w, hw, walking, hc, -⟩ := h.takeOp2 hr
    rw [hw]
    exact ⟨_, w, j + 1, rfl, Nat.le_refl _, walking, hc⟩
  · exact ⟨acc, u, j, rfl, Nat.le_succ j, h, rfl⟩

/-- A byte cycle reads at most one byte of operand 2, so operand 2 never runs ahead (R193). -/
theorem Walking.edCycle (h : Walking s v q a1 a2 i j u) (hr : s.canRead .op2 (a2 - BitVec.ofNat 16 j) = true)
    (hw : s.canWrite .op1 (a1 - BitVec.ofNat 16 i) = true) (acc : EditAcc) :
    ∃ acc' t j', Machine.edCycle i acc u = .ok acc' t ∧ j' ≤ j + 1 ∧ Walking s v q a1 a2 (i + 1) j' t ∧
      t.carry = u.carry := by
  obtain ⟨-, -, hc, -⟩ := countQ_leaves u
  obtain ⟨acc1, w, j', hd, hj, walking, hcw⟩ := h.countQ.takeDigit hr acc
  obtain ⟨x, hx, walking, hcx, -⟩ := walking.readOp1 (canRead_of_canWrite hw)
  have carry := hcx.trans (hcw.trans hc)
  simp only [Machine.edCycle, hd, hx, Res.bind_ok]
  split
  · obtain ⟨t, ht, walking, hct, -⟩ := walking.storeOp1 _ hw
    rw [ht]
    exact ⟨_, _, j', rfl, hj, walking.endCycle, hct.trans carry⟩
  · exact ⟨_, _, j', rfl, hj, walking.downOp1.endCycle, carry⟩

theorem Underway.freeEdit (h : Underway s v t q) : Underway s { v with psr := t.freeEdit.psr } t.freeEdit q := by
  obtain ⟨control, nostop, seq, ⟨iar, xr1, xr2, arr, -, rest⟩, pmr, wf⟩ := h
  exact ⟨control, nostop, seq, ⟨iar, xr1, xr2, arr, rfl, rest⟩, pmr, wf⟩

theorem edRun_completes (hm : Memory.wf s.mem = true) (hread : s.FieldReadable .op2 (s.address o2) (q.toNat + 1))
    (hwrite : s.FieldWritable (s.address o1) (q.toNat + 1)) (wasEqual : Bool) :
    ∃ t, edRun q wasEqual (s.enterTwo q o1 o2) = .ok () t ∧ Underway s { s with psr := t.psr } t q ∧
      t.carry = s.carry := by
  obtain ⟨acc, u, hu, j, -, walking, hc⟩ := loop_ok
    (inv := fun i _ u => ∃ j, j ≤ i ∧ Walking s s q (s.address o1) (s.address o2) i j u ∧ u.carry = s.carry)
    (body := edCycle) (fieldLength q) 0 ⟨true, 0, false, false, false⟩
    (fun i acc u _ hi ⟨j, hj, hu, hc⟩ => by
      have hi : i < q.toNat + 1 := by rwa [Nat.zero_add] at hi
      obtain ⟨acc', t, j', ht, hj', walking, hct⟩ := hu.edCycle (hread j (by omega)) (hwrite i hi) acc
      exact ⟨acc', t, ht, j', by omega, walking, hct.trans hc⟩)
    ⟨0, Nat.le_refl _, walking_enterTwo hm q o1 o2, rfl⟩
  rw [edRun, hu, Res.bind_ok]
  split
  · exact ⟨_, rfl, walking.underway.setPsr _, hc⟩
  · exact ⟨_, rfl, walking.underway.freeEdit, hc⟩

/-- High, Low and Equal are the last three bits (R26). -/
theorem setCondition_and : ∀ p h l e, setCondition p h l e &&& 0xF8 = p &&& 0xF8 := by decide +kernel

/-- Settles O59: every access of these instructions is in one of the two fields, and no byte stops them. -/
theorem decimalAndEditCompleteOnAnyBytes : Obligations.DecimalAndEditCompleteOnAnyBytes := by
  intro q o1 o2 s hm
  refine ⟨?_, fun hread hwrite => ?_⟩
  · intro op hop l2 l1 hread hwrite
    have h2 : length2 q = l2 := length2_eq q
    have h1 : length1 q = l1 := length1_eq q
    rw [← h2] at hread
    rw [← h1] at hwrite ⊢
    obtain ⟨t, hexec, ⟨⟨a, under⟩, upper, condition⟩, only⟩ := decimal_completes hop hm hread hwrite
    obtain ⟨iar, xr1, xr2, -, -, rest⟩ := id under.visible
    exact ⟨t, hexec, under.completes, only, ⟨iar, xr1, xr2, rfl, rfl, rest⟩, upper, condition⟩
  · obtain ⟨t, ht, under, carry⟩ := edRun_completes hm hread hwrite (flagOn s.psr psrEQ)
    have hexec : exec (Form.two .ed q o1 o2).instr s = .next t := by
      rw [exec_instr]
      exact congrArg Res.outcome ht
    refine ⟨t, hexec, under.completes, carry, exec_onlyField hm hexec rfl, under.visible, ?_⟩
    have psr := edRun_psr q (flagOn s.psr psrEQ) (s.enterTwo q o1 o2)
    rw [ht] at psr
    obtain same | ⟨h, l, e, set⟩ := psr
    · exact congrArg (· &&& 0xF8) same
    · exact (congrArg (· &&& 0xF8) set).trans (setCondition_and _ _ _ _)

end Sys2Proof.Machine
end

section
/-! PROOF. `MVI`, `SBN` and `SBF` (spec/41_data_control.md R198-R201). -/

namespace Sys2Proof.Machine

variable {s u : State} {q b : Byte} {o : Operand} {a : Word} {op : OneOp} {f : Byte → Byte} {r : Res Unit}

/-- What `MVI`, `SBN` and `SBF` come to: `b` is stored at `a` and nothing else changes, or an address that may not
be written stops them with nothing done (R198, R201). -/
structure StoresOneByte (s : State) (q : Byte) (a : Word) (b : Byte) (r : Res Unit) : Prop where
  stores : s.canWrite .op1 a = true → ∃ t, r = .ok () t ∧ CompletesOne s t q ∧ SameVisible s t ∧
    StorageWith s t (s.target .op1 a) b
  stops : ∀ e, s.writeCheck .op1 a = .error e → ∃ t, r = .stop t ∧ StopsUnchanged s t e

/-- The store that ends the byte cycle, in a state that has changed nothing yet. -/
theorem Underway.storeLast (h : Underway s s u q) (h8 : u.lsr8 = a) (h9 : u.lsr9 = s.lsr9) (hc : u.carry = s.carry)
    (hb : ∀ ra, u.byteAt ra = s.byteAt ra) :
    StoresOneByte s q a b ((u.storeOp1 b).bind fun _ s => .ok () s.endCycle) := by
  subst h8
  refine ⟨fun hw => ?_, fun e he => ?_⟩
  · obtain ⟨t, ht, under, -, h9t, hct, hbt⟩ := storeOp1_ok h b hw
    refine ⟨t.endCycle, by rw [ht, Res.bind_ok], ⟨under.endCycle.completes, hct.trans hc, h9t.trans h9⟩,
      under.endCycle.visible, fun ra => ?_⟩
    rw [← hb ra]
    exact hbt ra
  · rw [storeOp1_error h b he, Res.bind_stop]
    exact ⟨_, rfl, h.stopsUnchanged hb _ _⟩

/-- `SBN` and `SBF` read the byte before they store it; where it may not be written, the read meets the same event or
the store does (R80, R85, R201). -/
theorem storesOneByte_modifyOp1 (h : Underway s s u q) (h8 : u.lsr8 = a) (h9 : u.lsr9 = s.lsr9)
    (hc : u.carry = s.carry) (hb : ∀ ra, u.byteAt ra = s.byteAt ra) :
    StoresOneByte s q a (f (s.peek .op1 a)) (modifyOp1 f u) := by
  have readable (hr : s.canRead .op1 a = true) : StoresOneByte s q a (f (s.peek .op1 a)) (modifyOp1 f u) := by
    rw [← h8] at hr
    obtain ⟨v, hv, under, h8v, h9v, hcv, hbv⟩ := readOp1_ok h hr
    rw [h8, hb] at hv
    rw [modifyOp1, hv, Res.bind_ok]
    exact under.storeLast (h8v.trans h8) (h9v.trans h9) (hcv.trans hc) fun ra => (hbv ra).trans (hb ra)
  refine ⟨fun hw => (readable (canRead_of_canWrite hw)).stores hw, fun e he => ?_⟩
  obtain hr | hr := canRead_or_readCheck he
  · exact (readable hr).stops e he
  · have hs : u.readOp1 = .stop ((u.setMsar u.lsr8).stop _) := readAt_error h.checks (h8 ▸ hr)
    rw [modifyOp1, hs, Res.bind_stop]
    exact ⟨_, rfl, h.stopsUnchanged hb _ _⟩

theorem head?_encode (f : Form) : (encode f.instr).head? = some f.header.opByte := by
  rw [encode, form_instr]
  rfl

/-- The op code of a one-address instruction, by its addressing (R112). -/
theorem head?_encode_one (op : OneOp) (q : Byte) (o : Operand) :
    (encode (Form.one op q o).instr).head? =
      some (byAddressing o (Header.one op .direct).opByte (Header.one op .xr1).opByte (Header.one op .xr2).opByte) := by
  rw [head?_encode]
  cases o <;> rfl

/-- Read through `exec`. -/
theorem StoresOneByte.exec (h : StoresOneByte s q (s.address o) b r)
    (hexec : exec (Form.one op q o).instr s = .next r.state) :
    (s.canWrite .op1 (s.address o) = true →
      ∃ t, exec (Form.one op q o).instr s = .next t ∧ CompletesOne s t q ∧ SameVisible s t ∧
        StorageWith s t (s.target .op1 (s.address o)) b) ∧
      ∀ e, s.writeCheck .op1 (s.address o) = .error e →
        ∃ t, exec (Form.one op q o).instr s = .next t ∧ StopsUnchanged s t e := by
  refine ⟨fun hw => ?_, fun e he => ?_⟩
  · obtain ⟨t, rfl, done⟩ := h.stores hw
    exact ⟨t, hexec, done⟩
  · obtain ⟨t, rfl, stopped⟩ := h.stops e he
    exact ⟨t, hexec, stopped⟩

/-- Settles O33: one store of the Q-byte from the operand address. -/
theorem mviStoresImmediate : Obligations.MviStoresImmediate := by
  intro q o s hm
  have stores := (underway_enterOne s q o hm).storeLast (b := q) rfl rfl rfl fun _ => rfl
  exact ⟨head?_encode_one .mvi q o, stores.exec (exec_instr _ s)⟩

/-- Settles O34: `SBN` and `SBF` are one read and one store at the operand address. -/
theorem sbnSbfModifyMaskedBits : Obligations.SbnSbfModifyMaskedBits := by
  intro q o s hm
  have modifies (f : Byte → Byte) :=
    storesOneByte_modifyOp1 (f := f) (underway_enterOne s q o hm) rfl rfl rfl fun _ => rfl
  obtain ⟨sbnStores, sbnStops⟩ := (modifies (· ||| q)).exec (op := .sbn) (exec_instr _ s)
  obtain ⟨sbfStores, sbfStops⟩ := (modifies (· &&& ~~~q)).exec (op := .sbf) (exec_instr _ s)
  exact ⟨head?_encode_one .sbn q o, head?_encode_one .sbf q o, fun hw => ⟨sbnStores hw, sbfStores hw⟩,
    fun e he => ⟨sbnStops e he, sbfStops e he⟩⟩

end Sys2Proof.Machine
end

section
/-! PROOF. `MVC` as a move of the field, and as one byte duplicated through it (spec/41_data_control.md R191, R192). -/

namespace Sys2Proof.Machine

variable {s t : State} {a1 a2 : Word} {i l n : Nat}

/-- The byte-serial copy changes only the operand 1 field. -/
theorem serialCopy_of_outside {ra : RealAddr} (m : RealAddr → Byte) (hra : ∀ j < n, ra ≠ s.op1Cell a1 j) :
    serialCopy s a1 a2 n m ra = m ra := by
  induction n with
  | zero => rfl
  | succ n ih =>
    rw [serialCopy_succ]
    exact (Function.update_of_ne (hra n (Nat.lt_succ_self n)) _ _).trans (ih fun j hj => hra j (Nat.lt_succ_of_lt hj))

/-- Where no source byte is stored over before it is read, the copied bytes are those of operand 2 (R191). -/
theorem serialCopy_of_sourceKept (hd : s.FieldDistinct a1 l) (hk : s.SourceKept a1 l a2 l) (hn : n ≤ l) (hi : i < n) :
    serialCopy s a1 a2 n s.byteAt (s.op1Cell a1 i) = s.peek .op2 (a2 - BitVec.ofNat 16 i) := by
  induction n with
  | zero => exact absurd hi (Nat.not_lt_zero i)
  | succ n ih =>
    rw [serialCopy_succ]
    obtain hi | rfl := Nat.lt_succ_iff_lt_or_eq.mp hi
    · have other : s.op1Cell a1 i ≠ s.op1Cell a1 n := fun he => absurd (hd i (by omega) n hn he) (by omega)
      exact (Function.update_of_ne other _ _).trans (ih (by omega) hi)
    · exact (Function.update_self _ _ _).trans
        (serialCopy_of_outside _ fun j hj => (hk i hn j hj (by omega)).symm)

theorem target_eq_of_translates (h : s.translates .op1 = s.translates .op2) (la : Word) :
    s.target .op2 la = s.target .op1 la := by
  simp only [State.target, State.realOf, h]

/-- Where operand 2 lies one byte to the right, each cycle but the first finds the byte the cycle before stored, so the
byte at A2 fills the field, whatever else it overlaps (R192). -/
theorem serialCopy_of_right (ha : a2 = a1 + 1) (ht : s.translates .op1 = s.translates .op2) (hi : i < n) :
    serialCopy s a1 a2 n s.byteAt (s.op1Cell a1 i) = s.peek .op2 a2 := by
  induction n generalizing i with
  | zero => exact absurd hi (Nat.not_lt_zero i)
  | succ n ih =>
    have stored : serialCopy s a1 a2 n s.byteAt (s.target .op2 (a2 - BitVec.ofNat 16 n)) = s.peek .op2 a2 := by
      cases n with
      | zero => rw [BitVec.sub_zero]; rfl
      | succ k =>
        have before : a2 - BitVec.ofNat 16 (k + 1) = a1 - BitVec.ofNat 16 k := by
          rw [← sub_one_ofNat, ha, BitVec.add_sub_cancel]
        rw [before, target_eq_of_translates ht]
        exact ih (Nat.lt_succ_self k)
    rw [serialCopy_succ, stored, Function.update_apply]
    split
    · rfl
    · rename_i other
      obtain hi | rfl := Nat.lt_succ_iff_lt_or_eq.mp hi
      · exact ih hi
      · exact absurd rfl other

/-- An instruction that keeps the PMR keeps what the checks of an access read. -/
theorem SameControl.checks (h : SameControl s t) (pmr : t.pmr = s.pmr) : SameChecks s t := by
  obtain ⟨atr, -, -, -, -, -, -, -, -, -, -, -, -, cfg, -⟩ := h
  exact ⟨pmr, atr, cfg⟩

/-- Settles O39: the byte-serial copy of O38, read where its bytes are the source's. -/
theorem mvcMovesOrDuplicates : Obligations.MvcMovesOrDuplicates := by
  intro q o1 o2 s hm hread hwrite
  obtain ⟨t, hexec, ⟨control, -⟩, -, visible, storage⟩ := mvcCopiesByteSerially q o1 o2 s hm hread hwrite
  obtain ⟨-, -, -, -, -, pmr, -⟩ := visible
  have found i : t.peek .op1 (s.address o1 - BitVec.ofNat 16 i) =
      serialCopy s (s.address o1) (s.address o2) (q.toNat + 1) s.byteAt (s.op1Cell (s.address o1) i) :=
    (peek_eq (SameControl.checks control pmr) .op1 _).trans (storage _)
  refine ⟨t, hexec, fun ra hra => (storage ra).trans (serialCopy_of_outside _ hra), fun hd hk i hi => ?_,
    fun ha ht i hi => ?_⟩
  · rw [found, serialCopy_of_sourceKept hd hk (Nat.le_refl _) hi]
  · rw [found, serialCopy_of_right ha ht hi]

end Sys2Proof.Machine
end

section
/-! PROOF. `ED` over fields that share no byte (spec/41_data_control.md R193-R195). -/

namespace Sys2Proof.Machine

variable {s u : State} {q : Byte} {o1 o2 : Operand} {a1 a2 : Word} {i j : Nat} {acc : EditAcc}

/-! ## The digits moved -/

/-- Byte `i` of the operand 1 field, the rightmost byte 0; hex 20 is to be replaced (R193). -/
def State.pattern (s : State) (a1 : Word) (i : Nat) : Byte := s.peek .op1 (a1 - BitVec.ofNat 16 i)

theorem pattern_zero (s : State) (a1 : Word) : s.pattern a1 0 = s.peek .op1 a1 := by
  rw [State.pattern, BitVec.sub_zero]

theorem pattern_sub_one (s : State) (a1 : Word) (n : Nat) : s.pattern (a1 - 1) n = s.pattern a1 (n + 1) := by
  rw [State.pattern, sub_one_ofNat, State.pattern]

/-- The operand 2 byte whose digit would replace byte `i`: the replacements to the right of it have used up one byte
each (R193). -/
def State.editSource (s : State) (a1 a2 : Word) (i : Nat) : Byte :=
  s.peek .op2 (a2 - BitVec.ofNat 16 (s.count20 a1 i))

/-- What `ED` leaves in byte `i` (R193). -/
def State.editedByte (s : State) (a1 a2 : Word) (i : Nat) : Byte :=
  if s.pattern a1 i = 0x20 then 0xF0 ||| (s.editSource a1 a2 i &&& 0x0F) else s.pattern a1 i

/-- A digit that is not zero is moved in the rightmost `n` bytes (R194). -/
def State.MovesNonzero (s : State) (a1 a2 : Word) (n : Nat) : Prop :=
  ∃ i < n, s.pattern a1 i = 0x20 ∧ s.editSource a1 a2 i &&& 0x0F ≠ 0

theorem count20_succ (s : State) (a : Word) (n : Nat) :
    s.count20 a (n + 1) = s.count20 a n + if s.pattern a n = 0x20 then 1 else 0 := by
  induction n generalizing a with
  | zero => rw [State.count20, State.count20, State.count20, pattern_zero, Nat.add_comm]
  | succ n ih => rw [State.count20, ih, pattern_sub_one, ← Nat.add_assoc]; rfl

theorem count20_mono (s : State) (a : Word) : Monotone (s.count20 a) :=
  monotone_nat_of_le_succ fun n => by rw [count20_succ]; exact Nat.le_add_right _ _

theorem movesNonzero_succ (s : State) (a1 a2 : Word) (n : Nat) :
    s.MovesNonzero a1 a2 (n + 1) ↔
      s.MovesNonzero a1 a2 n ∨ s.pattern a1 n = 0x20 ∧ s.editSource a1 a2 n &&& 0x0F ≠ 0 := by
  simp only [State.MovesNonzero, Nat.exists_lt_succ_right]

/-- How many operand 2 bytes have been read before cycle `i`: the first in cycle 0, and one more after each
replacement (R193, D29). -/
def State.digitsRead (s : State) (a1 : Word) : Nat → Nat
  | 0 => 0
  | i + 1 => 1 + s.count20 a1 i

/-! ## The byte cycles -/

/-- The premises about the two fields of an `ED` of `n + 1` bytes. -/
structure EditFields (s : State) (a1 a2 : Word) (n : Nat) : Prop where
  readable1 : s.FieldReadable .op1 a1 (n + 1)
  readable2 : s.FieldReadable .op2 a2 (1 + s.count20 a1 n)
  writable : ∀ i < n + 1, s.pattern a1 i = 0x20 → s.canWrite .op1 (a1 - BitVec.ofNat 16 i) = true
  distinct : s.FieldDistinct a1 (n + 1)
  disjoint : s.FieldsDisjoint a1 (n + 1) a2 (1 + s.count20 a1 n)

/-- `u` is inside an `ED` that started in `s`, with `i` bytes stored or passed over and `j` bytes of operand 2 read. -/
structure EditedTo (s : State) (q : Byte) (a1 a2 : Word) (i j : Nat) (u : State) : Prop where
  walking : Walking s s q a1 a2 i j u
  written : Written s a1 i (s.editedByte a1 a2) u
  carry : u.carry = s.carry

/-- What `ED` has found and what it has at hand before cycle `i` (R193, R194). -/
structure EditFound (s : State) (a1 a2 : Word) (i : Nat) (acc : EditAcc) : Prop where
  due : s.digitsRead a1 i = s.count20 a1 i + if acc.need then 0 else 1
  digit : acc.need = false → acc.y = s.editSource a1 a2 i
  minus : 0 < i → acc.n2 = s.isMinus .op2 a2
  nonzero : acc.nzd = true ↔ s.MovesNonzero a1 a2 i
  first : acc.first20 = true ↔ 0 < i ∧ s.pattern a1 0 = 0x20

/-- The digit is at hand once it has been read if it had to be; the first one gives the sign (R193). -/
theorem EditedTo.takeDigit {n : Nat} (h : EditedTo s q a1 a2 i (s.digitsRead a1 i) u) (f : EditFound s a1 a2 i acc)
    (F : EditFields s a1 a2 n) (hi : i < n + 1) :
    ∃ w, takeDigit i acc u = .ok ⟨false, s.editSource a1 a2 i, s.isMinus .op2 a2, acc.nzd, acc.first20⟩ w ∧
      EditedTo s q a1 a2 i (s.digitsRead a1 (i + 1)) w := by
  obtain ⟨walking, written, carry⟩ := h
  have due := f.due
  have within : s.count20 a1 i < 1 + s.count20 a1 n := by
    have := count20_mono s a1 (Nat.lt_succ_iff.mp hi)
    omega
  unfold Machine.takeDigit
  split
  · rename_i need
    rw [if_pos need, Nat.add_zero] at due
    rw [due] at walking
    obtain ⟨w, hw, walking, hc, hb⟩ := walking.takeOp2 (F.readable2 _ within)
    have found : u.byteAt (s.target .op2 (a2 - BitVec.ofNat 16 (s.count20 a1 i))) = s.editSource a1 a2 i :=
      written.rest _ fun k hk => (F.disjoint k (by omega) _ within).symm
    have sign : (if i = 0 then isNegativeZone (zone (s.editSource a1 a2 i)) else acc.n2) = s.isMinus .op2 a2 := by
      split
      · rename_i h0
        rw [h0, State.editSource, State.count20, BitVec.sub_zero]
        rfl
      · exact f.minus (by omega)
    rw [found] at hw
    refine ⟨w, by rw [hw, Res.bind_ok, sign], ?_, written.congr hb, hc.trans carry⟩
    rw [State.digitsRead, Nat.add_comm]
    exact walking
  · rename_i need
    rw [if_neg need] at due
    have pos : 0 < i := by
      by_contra h0
      obtain rfl : i = 0 := by omega
      simp [State.digitsRead, State.count20] at due
    refine ⟨u, ?_, ?_, written, carry⟩
    · rw [← f.digit (Bool.eq_false_iff.mpr need), ← f.minus pos, ← Bool.eq_false_iff.mpr need]
    · rw [State.digitsRead, Nat.add_comm, ← due]
      exact walking

/-- After hex 20 the next digit is due (R193). -/
theorem EditFound.replaced (f : EditFound s a1 a2 i acc) (h20 : s.pattern a1 i = 0x20) :
    EditFound s a1 a2 (i + 1)
      ⟨true, s.editSource a1 a2 i, s.isMinus .op2 a2, acc.nzd || num (s.editSource a1 a2 i) != 0,
        acc.first20 || decide (i = 0)⟩ := by
  refine ⟨?_, nofun, fun _ => rfl, ?_, ?_⟩
  · rw [State.digitsRead, count20_succ, if_pos h20, if_pos rfl, Nat.add_comm, Nat.add_zero]
  · simp only [movesNonzero_succ, num_ne_zero, Bool.or_eq_true, f.nonzero, bne_iff_ne, and_iff_right h20]
  · obtain rfl | pos := Nat.eq_zero_or_pos i
    · simp [h20]
    · simp [f.first, pos, Nat.ne_of_gt pos]

/-- After any other byte the digit stays at hand (R193). -/
theorem EditFound.passed (f : EditFound s a1 a2 i acc) (h20 : s.pattern a1 i ≠ 0x20) :
    EditFound s a1 a2 (i + 1) ⟨false, s.editSource a1 a2 i, s.isMinus .op2 a2, acc.nzd, acc.first20⟩ := by
  have same : s.count20 a1 (i + 1) = s.count20 a1 i := by rw [count20_succ, if_neg h20, Nat.add_zero]
  refine ⟨?_, fun _ => ?_, fun _ => rfl, ?_, ?_⟩
  · rw [State.digitsRead, same, if_neg Bool.false_ne_true, Nat.add_comm]
  · rw [State.editSource, State.editSource, same]
  · simp only [movesNonzero_succ, f.nonzero, h20, false_and, or_false]
  · obtain rfl | pos := Nat.eq_zero_or_pos i
    · simpa [f.first] using h20
    · simp [f.first, pos]

/-- A byte cycle: hex 20 is replaced by the digit with zone F, any other byte is left (R193). -/
theorem EditedTo.cycle {n : Nat} (h : EditedTo s q a1 a2 i (s.digitsRead a1 i) u) (f : EditFound s a1 a2 i acc)
    (F : EditFields s a1 a2 n) (hi : i < n + 1) :
    ∃ acc' t, edCycle i acc u = .ok acc' t ∧ EditedTo s q a1 a2 (i + 1) (s.digitsRead a1 (i + 1)) t ∧
      EditFound s a1 a2 (i + 1) acc' := by
  obtain ⟨-, -, hc, hb, -⟩ := countQ_leaves u
  have counted : EditedTo s q a1 a2 i (s.digitsRead a1 i) u.countQ :=
    ⟨h.walking.countQ, h.written.congr hb, hc.trans h.carry⟩
  obtain ⟨v, hv, walking, written, carry⟩ := counted.takeDigit f F hi
  have apart k (hk : k < i) : s.op1Cell a1 k ≠ s.op1Cell a1 i :=
    fun he => absurd (F.distinct k (by omega) i hi he) (by omega)
  have found : v.byteAt (s.op1Cell a1 i) = s.pattern a1 i :=
    written.rest _ fun k hk => (apart k hk).symm
  obtain ⟨w, hw, walking, hcw, hbw⟩ := walking.readOp1 (F.readable1 i hi)
  rw [found] at hw
  simp only [edCycle, hv, hw, Res.bind_ok]
  by_cases h20 : s.pattern a1 i = 0x20
  · have digit : s.editedByte a1 a2 i = zoned 0xF (num (s.editSource a1 a2 i)) := by
      rw [State.editedByte, if_pos h20, zoned_num]
    obtain ⟨t, ht, walking, hct, hbt⟩ := walking.storeOp1 (s.editedByte a1 a2 i) (F.writable i hi h20)
    simp only [Function.update_apply] at hbt
    rw [if_pos h20, ← digit, ht]
    exact ⟨_, _, rfl, ⟨walking.endCycle, (written.congr hbw).next apart hbt, hct.trans (hcw.trans carry)⟩,
      f.replaced h20⟩
  · have kept : w.byteAt (s.op1Cell a1 i) = s.editedByte a1 a2 i := by
      rw [hbw, found, State.editedByte, if_neg h20]
    have unchanged ra : w.byteAt ra = if ra = s.op1Cell a1 i then s.editedByte a1 a2 i else w.byteAt ra := by
      split
      · rename_i hra
        rw [hra, kept]
      · rfl
    rw [if_neg h20]
    exact ⟨_, _, rfl, ⟨walking.downOp1.endCycle, (written.congr hbw).next apart unchanged, hcw.trans carry⟩,
      f.passed h20⟩

/-- All byte cycles of an `ED` complete. -/
theorem editedTo_loop (hm : Memory.wf s.mem = true) (q : Byte) (o1 o2 : Operand)
    (F : EditFields s (s.address o1) (s.address o2) q.toNat) :
    ∃ acc u, loop edCycle (fieldLength q) 0 ⟨true, 0, false, false, false⟩ (s.enterTwo q o1 o2) = .ok acc u ∧
      EditedTo s q (s.address o1) (s.address o2) (q.toNat + 1) (1 + s.count20 (s.address o1) q.toNat) u ∧
      EditFound s (s.address o1) (s.address o2) (q.toNat + 1) acc := by
  obtain ⟨acc, u, hu, edited, found⟩ := loop_ok
    (inv := fun i acc u => EditedTo s q (s.address o1) (s.address o2) i (s.digitsRead (s.address o1) i) u ∧
      EditFound s (s.address o1) (s.address o2) i acc)
    (body := edCycle) (fieldLength q) 0 ⟨true, 0, false, false, false⟩
    (fun i acc u _ hi ⟨edited, found⟩ => edited.cycle found F (by rwa [Nat.zero_add] at hi))
    ⟨⟨walking_enterTwo hm q o1 o2, ⟨nofun, fun _ _ => rfl⟩, rfl⟩,
      ⟨rfl, nofun, nofun, by simp [State.MovesNonzero], by simp⟩⟩
  rw [Nat.zero_add] at edited found
  exact ⟨acc, u, hu, edited, found⟩

/-! ## High, Low and Equal (R194) -/

theorem flagOn_psrEQ : ∀ p, flagOn p psrEQ = true ↔ p &&& 0x01 = 0x01 := by decide +kernel

/-- The end of an `ED`: under one of R194's conditions High, Low and Equal are those of the result, otherwise they are
free (log 9). -/
def editEnd (acc : EditAcc) (wasEqual : Bool) (s : State) : State :=
  if wasEqual || acc.first20 || acc.nzd then s.setPsr (setResult s.psr acc.nzd acc.n2) else s.freeEdit

theorem edRun_eq {wasEqual : Bool} {q : Byte} {t : State}
    (h : loop edCycle (fieldLength q) 0 ⟨true, 0, false, false, false⟩ u = .ok acc t) :
    edRun q wasEqual u = .ok () (editEnd acc wasEqual t) := by
  rw [edRun, h, Res.bind_ok, editEnd]
  split <;> rfl

theorem setResult_upper : ∀ p nz low, setResult p nz low &&& 0xF8 = p &&& 0xF8 := by decide +kernel

/-- It changes High, Low and Equal alone. -/
theorem editEnd_leaves (acc : EditAcc) (wasEqual : Bool) (h : Underway s s u q) :
    Underway s { s with psr := (editEnd acc wasEqual u).psr } (editEnd acc wasEqual u) q ∧
      (editEnd acc wasEqual u).carry = u.carry ∧ (editEnd acc wasEqual u).lsr9 = u.lsr9 ∧
      (∀ ra, (editEnd acc wasEqual u).byteAt ra = u.byteAt ra) ∧
      (editEnd acc wasEqual u).psr &&& 0xF8 = s.psr &&& 0xF8 := by
  obtain ⟨-, -, -, -, psr, -⟩ := id h.visible
  unfold editEnd
  split
  · exact ⟨h.setPsr _, rfl, rfl, fun _ => rfl, psr ▸ setResult_upper _ _ _⟩
  · exact ⟨h.freeEdit, rfl, rfl, fun _ => rfl, psr ▸ setCondition_and _ _ _ _⟩

/-- High, Low and Equal under one of R194's conditions. -/
theorem editEnd_psr {wasEqual : Bool} (hc : wasEqual = true ∨ acc.first20 = true ∨ acc.nzd = true) :
    (editEnd acc wasEqual u).psr = withCondition u.psr (conditionOf (!acc.nzd) acc.n2) := by
  have met : (wasEqual || acc.first20 || acc.nzd) = true := by simpa [or_assoc] using hc
  rw [editEnd, if_pos met, State.setPsr_psr, setResult_eq]

/-- Settles O55: the byte cycles of `ED`, then its end. -/
theorem edReplacesHex20 : Obligations.EdReplacesHex20 := by
  intro q o1 o2 s hm a1 a2 reads hread2 hread1 hwrite hdistinct hdisjoint
  obtain ⟨acc, u, hu, ⟨⟨under, -, lsr9⟩, written, carry⟩, found⟩ :=
    editedTo_loop hm q o1 o2 ⟨hread1, hread2, hwrite, hdistinct, hdisjoint⟩
  obtain ⟨ended, hcarry, hlsr9, hbytes, hupper⟩ := editEnd_leaves acc (flagOn s.psr psrEQ) under
  have hexec : exec (Form.two .ed q o1 o2).instr s = .next (editEnd acc (flagOn s.psr psrEQ) u) := by
    rw [exec_instr]
    exact congrArg Res.outcome (edRun_eq hu)
  have minus := found.minus (Nat.succ_pos _)
  obtain ⟨-, -, -, -, psr, -⟩ := id under.visible
  refine ⟨_, hexec, ended.completes, hcarry.trans carry, hlsr9.trans lsr9, (written.congr hbytes).rest, fun i hi => ?_,
    ended.visible, hupper, fun moves => ?_, fun zero hc => ?_⟩
  · exact (peek_eq ended.checks .op1 _).trans ((written.congr hbytes).done i hi)
  · have nzd := found.nonzero.mpr moves
    rw [editEnd_psr (.inr (.inr nzd)), nzd, minus, psr]
    rfl
  · have nzd : acc.nzd = false := by
      rw [← Bool.not_eq_true, found.nonzero]
      rintro ⟨i, hi, h20, hne⟩
      exact hne (zero i hi h20)
    have met : flagOn s.psr psrEQ = true ∨ acc.first20 = true ∨ acc.nzd = true := by
      obtain hEq | h20 := hc
      · exact .inl ((flagOn_psrEQ _).mpr hEq)
      · exact .inr (.inl (found.first.mpr ⟨Nat.succ_pos _, by rwa [pattern_zero]⟩))
    rw [editEnd_psr met, nzd, psr]
    rfl

end Sys2Proof.Machine
end

section
/-! PROOF. `ITC` (spec/41_data_control.md R196, R197). -/

namespace Sys2Proof.Machine

variable {s u t : State} {q fill : Byte} {o1 o2 : Operand} {a1 : Word} {i k n : Nat} {e : StopEvent}

/-- The real address of byte `i` of the operand 1 field that starts at `a` (R73). -/
def State.upCell (s : State) (a : Word) (i : Nat) : RealAddr := s.target .op1 (a + BitVec.ofNat 16 i)

/-- The leftmost `k` bytes of the field hold the fill byte, and every other byte is as it was in `s`. -/
structure FilledUp (s : State) (a1 : Word) (fill : Byte) (k : Nat) (u : State) : Prop where
  done : ∀ i < k, u.byteAt (s.upCell a1 i) = fill
  rest : ∀ ra, (∀ i < k, ra ≠ s.upCell a1 i) → u.byteAt ra = s.byteAt ra

theorem FilledUp.congr (h : FilledUp s a1 fill k u) (hb : ∀ ra, t.byteAt ra = u.byteAt ra) :
    FilledUp s a1 fill k t :=
  ⟨fun i hi => (hb _).trans (h.done i hi), fun ra hra => (hb ra).trans (h.rest ra hra)⟩

/-- The next byte is filled; where it is one of those before, it already was. -/
theorem FilledUp.next (h : FilledUp s a1 fill k u)
    (hb : ∀ ra, t.byteAt ra = if ra = s.upCell a1 k then fill else u.byteAt ra) : FilledUp s a1 fill (k + 1) t := by
  refine ⟨fun i hi => ?_, fun ra hra => ?_⟩
  · rw [hb]
    split
    · rfl
    · rename_i other
      obtain hi | rfl := Nat.lt_succ_iff_lt_or_eq.mp hi
      · exact h.done i hi
      · exact absurd rfl other
  · rw [hb, if_neg (hra k (Nat.lt_succ_self k)), h.rest ra fun i hi => hra i (Nat.lt_succ_of_lt hi)]

/-- `u` is inside an `ITC` that started in `s`, with `k` bytes filled and the ARR at `r`. -/
structure Filling (s : State) (q : Byte) (a1 : Word) (fill : Byte) (r : Word) (k : Nat) (u : State) : Prop where
  underway : Underway s { s with arr := r } u q
  lsr8 : u.lsr8 = a1 + BitVec.ofNat 16 k
  carry : u.carry = s.carry
  filled : FilledUp s a1 fill k u

/-- The address of byte `k` enters the ARR before the byte is read (R196). -/
theorem Filling.look {r : Word} (h : Filling s q a1 fill r k u) :
    Filling s q a1 fill (a1 + BitVec.ofNat 16 k) k (u.countQ.setArr u.countQ.lsr8) := by
  obtain ⟨h8, -, hc, hb, -⟩ := countQ_leaves u
  have under := h.underway.countQ.setArr (a1 + BitVec.ofNat 16 k)
  rw [h8, h.lsr8]
  exact ⟨under, h8.trans h.lsr8, hc.trans h.carry, h.filled.congr hb⟩

theorem Filling.endCycle {r : Word} (h : Filling s q a1 fill r k u) : Filling s q a1 fill r k u.endCycle :=
  ⟨h.underway.endCycle, h.lsr8, h.carry, h.filled.congr fun _ => rfl⟩

/-- Byte `k` is found as it was in `s` where no filled byte lies at its address. -/
theorem Filling.readOp1 {r : Word} (h : Filling s q a1 fill r k u)
    (hr : s.canRead .op1 (a1 + BitVec.ofNat 16 k) = true) (hd : ∀ i < k, s.upCell a1 i ≠ s.upCell a1 k) :
    ∃ v, u.readOp1 = .ok (s.peek .op1 (a1 + BitVec.ofNat 16 k)) v ∧ Filling s q a1 fill r k v := by
  obtain ⟨v, hv, under, h8, -, hc, hb⟩ := readOp1_ok h.underway (h.lsr8 ▸ hr)
  have found : u.byteAt (s.upCell a1 k) = s.peek .op1 (a1 + BitVec.ofNat 16 k) :=
    h.filled.rest _ fun i hi => (hd i hi).symm
  rw [h.lsr8] at hv h8
  rw [← State.upCell, found] at hv
  exact ⟨v, hv, under, h8, hc.trans h.carry, h.filled.congr hb⟩

/-- A cycle that finds byte `k`, significant or not (R196, D9). -/
theorem Filling.itcCycle_eq {r : Word} (h : Filling s q a1 fill r k u)
    (hr : s.canRead .op1 (a1 + BitVec.ofNat 16 k) = true) (hd : ∀ i < k, s.upCell a1 i ≠ s.upCell a1 k) :
    ∃ v, Filling s q a1 fill (a1 + BitVec.ofNat 16 k) k v ∧
      itcCycle fill n false u =
        if s.cfg.itcSignificant (s.peek .op1 (a1 + BitVec.ofNat 16 k)) then .ok true v.endCycle
        else (v.writeOp1 fill).bind fun _ s => .ok false s.upOp1.endCycle := by
  obtain ⟨v, hv, filling⟩ := h.look.readOp1 hr hd
  obtain ⟨-, -, cfg⟩ := filling.underway.checks
  refine ⟨v, filling, ?_⟩
  rw [itcCycle, if_neg Bool.false_ne_true]
  simp only [hv, Res.bind_ok, cfg]

/-- A significant byte ends the search (R196). -/
theorem Filling.finds {r : Word} (h : Filling s q a1 fill r k u)
    (hr : s.canRead .op1 (a1 + BitVec.ofNat 16 k) = true) (hd : ∀ i < k, s.upCell a1 i ≠ s.upCell a1 k)
    (hs : s.cfg.itcSignificant (s.peek .op1 (a1 + BitVec.ofNat 16 k)) = true) :
    ∃ v, itcCycle fill n false u = .ok true v ∧ Filling s q a1 fill (a1 + BitVec.ofNat 16 k) k v := by
  obtain ⟨v, filling, hv⟩ := h.itcCycle_eq hr hd
  rw [if_pos hs] at hv
  exact ⟨v.endCycle, hv, filling.endCycle⟩

/-- An insignificant byte is filled (R196). -/
theorem Filling.fills {r : Word} (h : Filling s q a1 fill r k u)
    (hw : s.canWrite .op1 (a1 + BitVec.ofNat 16 k) = true) (hd : ∀ i < k, s.upCell a1 i ≠ s.upCell a1 k)
    (hs : s.cfg.itcSignificant (s.peek .op1 (a1 + BitVec.ofNat 16 k)) = false) :
    ∃ v, itcCycle fill n false u = .ok false v ∧ Filling s q a1 fill (a1 + BitVec.ofNat 16 k) (k + 1) v := by
  obtain ⟨v, filling, hv⟩ := h.itcCycle_eq (n := n) (canRead_of_canWrite hw) hd
  obtain ⟨w, hw, under, h8, -, hc, hb⟩ := writeOp1_ok filling.underway fill (filling.lsr8 ▸ hw)
  rw [filling.lsr8] at h8 hb
  rw [if_neg (Bool.eq_false_iff.mp hs), hw, Res.bind_ok] at hv
  refine ⟨w.upOp1.endCycle, hv, ?_, ?_, hc.trans filling.carry, filling.filled.next hb⟩
  · exact under.update (w.lsr8 + 1) w.lsr9 w.msar w.qReg false w.complement w.recomplement w.carry w.compareHit
  · rw [State.endCycle_lsr8, State.upOp1_lsr8, h8, add_ofNat_succ]

/-- What an `ITC` that fails at byte `k` leaves (R96, R281, R292). -/
structure FillFaulted (s : State) (a1 : Word) (fill : Byte) (k : Nat) (e : StopEvent) (t : State) : Prop where
  stopped : StoppedOn s t e
  visible : SameVisible { s with arr := a1 + BitVec.ofNat 16 k } t
  control : SameControl s t
  filled : FilledUp s a1 fill k t

/-- A stop after byte `k` has been looked at. -/
theorem Filling.faulted (h : Filling s q a1 fill (a1 + BitVec.ofNat 16 k) k u) (la : Word) (e : StopEvent) :
    FillFaulted s a1 fill k e ((u.setMsar la).stop e) := by
  obtain ⟨-, -, -, sb3, nonexecutable, -⟩ := h.underway.nostop
  exact ⟨⟨rfl, rfl, rfl, congrArg (· ||| e.sb3Bits) sb3, congrArg (· || e.setsNonexecutable) nonexecutable⟩,
    h.underway.visible, h.underway.control, h.filled.congr fun _ => rfl⟩

/-- Byte `k` cannot be read, or is not significant and cannot be filled (R90, R96). -/
abbrev State.FillFaults (s : State) (a1 : Word) (k : Nat) (e : StopEvent) : Prop :=
  s.readCheck .op1 (a1 + BitVec.ofNat 16 k) = .error e ∨
    s.canRead .op1 (a1 + BitVec.ofNat 16 k) = true ∧ (∀ i < k, s.upCell a1 i ≠ s.upCell a1 k) ∧
      s.cfg.itcSignificant (s.peek .op1 (a1 + BitVec.ofNat 16 k)) = false ∧
      s.writeCheck .op1 (a1 + BitVec.ofNat 16 k) = .error e

theorem Filling.faults {r : Word} (h : Filling s q a1 fill r k u) (hf : s.FillFaults a1 k e) :
    ∃ t, itcCycle fill n false u = .stop t ∧ FillFaulted s a1 fill k e t := by
  obtain hr | ⟨hr, hd, hs, hw⟩ := hf
  · have look := h.look
    have stop : (u.countQ.setArr u.countQ.lsr8).readOp1 = .stop _ :=
      readAt_error look.underway.checks (look.lsr8 ▸ hr)
    refine ⟨_, ?_, look.faulted (u.countQ.setArr u.countQ.lsr8).lsr8 e⟩
    rw [itcCycle, if_neg Bool.false_ne_true]
    simp only [stop, Res.bind_stop]
  · obtain ⟨v, filling, hv⟩ := h.itcCycle_eq (n := n) hr hd
    have stop : v.writeOp1 fill = .stop _ := writeAt_error filling.underway.checks (filling.lsr8 ▸ hw)
    rw [if_neg (Bool.eq_false_iff.mp hs), stop, Res.bind_stop] at hv
    exact ⟨_, hv, filling.faulted v.lsr8 e⟩

/-! ## The whole instruction -/

/-- Bytes 0 to `k - 1` are to be filled, and lie at different real addresses. -/
structure Fillable (s : State) (a1 : Word) (k : Nat) : Prop where
  fillable : ∀ i < k, s.canWrite .op1 (a1 + BitVec.ofNat 16 i) = true ∧
    s.cfg.itcSignificant (s.peek .op1 (a1 + BitVec.ofNat 16 i)) = false
  distinct : ∀ i < k, ∀ j < k, i < j → s.upCell a1 i ≠ s.upCell a1 j

/-- The cycles that fill (R196). -/
theorem Filling.loop {r : Word} (h : Filling s q a1 fill r 0 u) (F : Fillable s a1 k) :
    ∃ t r, loop (itcCycle fill) k 0 false u = .ok false t ∧ Filling s q a1 fill r k t := by
  obtain ⟨found, t, ht, rfl, r, filling⟩ := loop_ok
    (inv := fun i found u => found = false ∧ ∃ r, Filling s q a1 fill r i u) (body := itcCycle fill) k 0 false
    (fun i found u _ hi ⟨hfound, r, hu⟩ => by
      subst hfound
      rw [Nat.zero_add] at hi
      obtain ⟨writable, insignificant⟩ := F.fillable i hi
      obtain ⟨v, hv, filling⟩ := hu.fills writable (fun j hj => F.distinct j (by omega) i hi hj) insignificant
      exact ⟨_, v, hv, rfl, _, filling⟩)
    ⟨rfl, r, h⟩
  rw [Nat.zero_add] at filling
  exact ⟨t, r, ht, filling⟩

/-- Once a significant byte has been found nothing more is done (R196). -/
theorem loop_itcCycle_found (fill : Byte) (n i : Nat) (u : State) :
    loop (itcCycle fill) n i true u = .ok true u := by
  induction n generalizing i with
  | zero => rfl
  | succ n ih => rw [Machine.loop, itcCycle, if_pos rfl, Res.bind_ok, ih]

/-- The read of the fill byte (R196). -/
theorem filling_takeOp2 (hm : Memory.wf s.mem = true) (q : Byte) (o1 o2 : Operand)
    (hr : s.canRead .op2 (s.address o2) = true) :
    ∃ u, (s.enterTwo q o1 o2).takeOp2 = .ok (s.peek .op2 (s.address o2)) u ∧
      Filling s q (s.address o1) (s.peek .op2 (s.address o2)) s.arr 0 u := by
  obtain ⟨u, hu, under, h8, -, hc, hb⟩ := takeOp2_ok (underway_enterTwo s q o1 o2 hm) hr
  exact ⟨u, hu, under, h8.trans (BitVec.add_zero _).symm, hc, nofun, fun ra _ => hb ra⟩

theorem exec_itc (s : State) (q : Byte) (o1 o2 : Operand) :
    exec (Form.two .itc q o1 o2).instr s = .next (itcRun q (s.enterTwo q o1 o2)).state :=
  exec_instr _ s

/-- An `ITC` that completes, at a significant byte or past the field (R196, R197). -/
theorem itc_completes (hm : Memory.wf s.mem = true) (hr : s.canRead .op2 (s.address o2) = true)
    (F : Fillable s (s.address o1) k) (hk : k ≤ q.toNat + 1)
    (hfinds : k < q.toNat + 1 → s.canRead .op1 (s.address o1 + BitVec.ofNat 16 k) = true ∧
      (∀ i < k, s.upCell (s.address o1) i ≠ s.upCell (s.address o1) k) ∧
      s.cfg.itcSignificant (s.peek .op1 (s.address o1 + BitVec.ofNat 16 k)) = true) :
    ∃ t, exec (Form.two .itc q o1 o2).instr s = .next t ∧
      Filling s q (s.address o1) (s.peek .op2 (s.address o2)) (s.address o1 + BitVec.ofNat 16 k) k t := by
  obtain ⟨u, hu, filling⟩ := filling_takeOp2 hm q o1 o2 hr
  obtain ⟨v, r, hv, filling⟩ := filling.loop F
  rw [exec_itc, itcRun, hu, Res.bind_ok]
  obtain hlt | rfl := Nat.lt_or_eq_of_le hk
  · obtain ⟨readable, distinct, significant⟩ := hfinds hlt
    obtain ⟨w, hw, filling⟩ := filling.finds (n := 0 + k) readable distinct significant
    obtain ⟨m, hlength⟩ : ∃ m, fieldLength q = k + (m + 1) := ⟨q.toNat - k, by unfold fieldLength; omega⟩
    rw [hlength, loop_add, hv, Res.bind_ok, Machine.loop, hw, Res.bind_ok, loop_itcCycle_found]
    exact ⟨w, rfl, filling⟩
  · obtain ⟨under, lsr8, carry, filled⟩ := filling
    rw [fieldLength, hv]
    refine ⟨v.setArr v.lsr8, rfl, ?_, lsr8, carry, filled.congr fun _ => rfl⟩
    rw [lsr8]
    exact under.setArr _

theorem itc_faults (hm : Memory.wf s.mem = true) (hr : s.canRead .op2 (s.address o2) = true)
    (F : Fillable s (s.address o1) k) (hk : k < q.toNat + 1) (hf : s.FillFaults (s.address o1) k e) :
    ∃ t, exec (Form.two .itc q o1 o2).instr s = .next t ∧
      FillFaulted s (s.address o1) (s.peek .op2 (s.address o2)) k e t := by
  obtain ⟨u, hu, filling⟩ := filling_takeOp2 hm q o1 o2 hr
  obtain ⟨v, r, hv, filling⟩ := filling.loop F
  obtain ⟨t, ht, faulted⟩ := filling.faults (n := 0 + k) hf
  obtain ⟨m, hlength⟩ : ∃ m, fieldLength q = k + (m + 1) := ⟨q.toNat - k, by unfold fieldLength; omega⟩
  rw [exec_itc, itcRun, hu, Res.bind_ok, hlength, loop_add, hv, Res.bind_ok, Machine.loop, ht]
  exact ⟨t, rfl, faulted⟩

/-- An `ITC` whose fill byte cannot be read (R292). -/
theorem itc_stopsUnchanged (hm : Memory.wf s.mem = true) (he : s.readCheck .op2 (s.address o2) = .error e) :
    ∃ t, exec (Form.two .itc q o1 o2).instr s = .next t ∧ StopsUnchanged s t e := by
  have entered := underway_enterTwo s q o1 o2 hm
  rw [exec_itc, itcRun, takeOp2_error entered he]
  exact ⟨_, rfl, entered.stopsUnchanged (fun _ => rfl) _ e⟩

/-- Settles O56: `ITC` that fills `k` bytes, then finds a significant one, ends or faults. -/
theorem itcFillsToFirstSignificant : Obligations.ItcFillsToFirstSignificant := by
  intro q o1 o2 s hm a1
  refine ⟨fun e he => itc_stopsUnchanged hm he, fun k hr fillable => ⟨fun hk hfinds hd => ?_, fun e hk hd hf => ?_⟩⟩
  · obtain ⟨t, hexec, under, -, carry, done, rest⟩ := itc_completes hm hr
      ⟨fillable, fun i hi j hj hij => hd i hi j (by omega) hij⟩ hk fun hlt =>
        ⟨(hfinds hlt).1, fun i hi => hd i hi k hlt hi, (hfinds hlt).2⟩
    exact ⟨t, hexec, under.completes, carry, under.visible,
      fun i hi => (peek_eq under.checks .op1 _).trans (done i hi), rest⟩
  · obtain ⟨t, hexec, stopped, visible, control, done, rest⟩ := itc_faults hm hr ⟨fillable, hd⟩ hk hf
    obtain ⟨-, -, -, -, -, pmr, -⟩ := id visible
    exact ⟨t, hexec, stopped, control, visible,
      fun i hi => (peek_eq (SameControl.checks control pmr) .op1 _).trans (done i hi), rest⟩

end Sys2Proof.Machine
end

section
/-! PROOF. `CLI`, `TBN` and `TBF` (spec/42_logical.md R230, R232, R233). -/

namespace Sys2Proof.Machine

variable {s : State} {q p x y : Byte} {o : Operand} {op : OneOp} {g : Byte → Byte → Byte} {e : StopEvent}

/-- The unsigned comparison sets one condition, in the codes of the obligations (R27, R230). -/
theorem setCompare_eq (p x y : Byte) :
    setCompare p x y = withCondition p (conditionOf (decide (x = y)) (decide (x.toNat < y.toNat))) := by
  have high : y.ult x = (x != y && !x.ult y) := by
    rw [Bool.eq_iff_iff]
    simp only [BitVec.ult, decide_eq_true_eq, Bool.and_eq_true, bne_iff_ne, ne_eq, Bool.not_eq_true',
      decide_eq_false_iff_not, ← BitVec.toNat_inj]
    omega
  have low : x.ult y = (x != y && x.ult y) := by
    rw [Bool.eq_iff_iff]
    simp only [BitVec.ult, decide_eq_true_eq, Bool.and_eq_true, bne_iff_ne, ne_eq, ← BitVec.toNat_inj]
    omega
  have result : setCompare p x y = setResult p (x != y) (x.ult y) := by
    rw [setCompare, setResult, ← high, ← low, bne, Bool.not_not]
  rw [result, setResult_eq, bne, Bool.not_not]
  rfl

/-- All tested bits are on where none of them is off (R232). -/
theorem not_and_eq_zero_iff (x q : Byte) : ~~~x &&& q = 0 ↔ x &&& q = q := by
  simp only [BitVec.eq_of_getLsbD_eq_iff]
  refine forall₂_congr fun i hi => ?_
  cases hx : x[i] <;> simp [hi, hx]

/-- Read the operand 1 byte and set the PSR from it and from what the PSR held: `CLI`, `TBN` and `TBF`. -/
def readSetting (g : Byte → Byte → Byte) (s : State) : Res Unit :=
  s.takeOp1.bind fun x s => .ok () (s.setPsr (g x s.psr)).endCycle

theorem readSetting_ok (hr : s.canRead .op1 (s.address o) = true) :
    ∃ t, readSetting g (s.enterOne q o) = .ok () t ∧ CompletesOne s t q ∧ SameStorage s t ∧
      SameVisible { s with psr := g (s.peek .op1 (s.address o)) s.psr } t := by
  obtain ⟨w, hw, reading, -⟩ := (reading_enterOne s q o).takeOp1_ok (a1 := s.address o) rfl hr
  have psr : w.psr = s.psr := by
    obtain ⟨-, -, -, -, psr, -⟩ := (reading.visible (SameVisible.refl _)).1
    exact psr
  have loaded := (reading.setPsr (g (s.peek .op1 (s.address o)) s.psr)).endCycle
  obtain ⟨completes, storage, carry, lsr9⟩ := loaded.completed
  exact ⟨_, by rw [readSetting, hw, Res.bind_ok, psr], ⟨completes, carry, lsr9⟩, storage,
    (loaded.visible (SameVisible.refl _)).1⟩

/-- Read through `exec`: the byte is read and the PSR set, or the read fails and nothing changes (R292). -/
theorem exec_readSetting (hexec : exec (Form.one op q o).instr s = .next (readSetting g (s.enterOne q o)).state) :
    (s.canRead .op1 (s.address o) = true →
      ∃ t, exec (Form.one op q o).instr s = .next t ∧ CompletesOne s t q ∧ SameStorage s t ∧
        SameVisible { s with psr := g (s.peek .op1 (s.address o)) s.psr } t) ∧
      ∀ e, s.readCheck .op1 (s.address o) = .error e →
        ∃ t, exec (Form.one op q o).instr s = .next t ∧ StopsUnchanged s t e := by
  refine ⟨fun hr => ?_, fun e he => ?_⟩
  · obtain ⟨t, ht, done⟩ := readSetting_ok (q := q) (g := g) hr
    exact ⟨t, by rw [hexec, ht, Res.state_ok], done⟩
  · obtain ⟨t, ht, stops⟩ := stopsUnchanged_of_takeOp1 (q := q) he
    exact ⟨t, by rw [hexec, readSetting, ht, Res.bind_stop, Res.state_stop], stops⟩

/-- Settles O35: `CLI` sets the PSR from the comparison of the byte read with the Q-byte. -/
theorem cliCompares : Obligations.CliCompares := by
  intro q o s
  obtain ⟨compares, stops⟩ := exec_readSetting (op := .cli) (g := fun x p => setCompare p x q) (exec_instr _ s)
  refine ⟨head?_encode_one .cli q o, fun hr => ?_, stops⟩
  obtain ⟨t, hexec, completes, storage, visible⟩ := compares hr
  simp only [setCompare_eq, conditionOf, decide_eq_true_eq] at visible
  exact ⟨t, hexec, completes, storage, visible⟩

/-- Settles O36: `TBN` and `TBF` set the PSR from the tested bits of the byte read. -/
theorem tbnTbfSetTestFalse : Obligations.TbnTbfSetTestFalse := by
  intro q o s
  obtain ⟨tbn, tbnStops⟩ := exec_readSetting (op := .tbn)
    (g := fun x p => if ~~~x &&& q != 0 then setFlag p psrTF true else p) (exec_instr _ s)
  obtain ⟨tbf, tbfStops⟩ := exec_readSetting (op := .tbf)
    (g := fun x p => if x &&& q != 0 then setFlag p psrTF true else p) (exec_instr _ s)
  simp only [bne_iff_ne, ite_not, ne_eq, not_and_eq_zero_iff] at tbn tbf
  exact ⟨head?_encode_one .tbn q o, head?_encode_one .tbf q o, fun hr => ⟨tbn hr, tbf hr⟩,
    fun e he => ⟨tbnStops e he, tbfStops e he⟩⟩

end Sys2Proof.Machine
end

section
/-! PROOF. Decimal overflow and Test false stay on until tested or loaded (spec/42_logical.md R234,
spec/70_reset_and_hazards.md R328). -/

namespace Sys2Proof

/-- The forms that turn the indicator of PSR bit `k` on: Decimal overflow or Test false (R155, R234). -/
def Form.raises (f : Form) (k : Nat) : Prop :=
  k = 4 ∧ (∃ q o1 o2, f = .two .az q o1 o2 ∨ f = .two .sz q o1 o2) ∨
    k = 3 ∧ ∃ q o, f = .one .tbn q o ∨ f = .one .tbf q o

end Sys2Proof

namespace Sys2Proof.Machine

variable {f : Form} {p p' : Byte} {k : Nat} {s t : State} {i : Instr}

/-! ## The two indicators as PSR bits (R26) -/

theorem flagOn_psrDO : ∀ p, flagOn p psrDO = ibmBit p 4 := by decide +kernel

theorem flagOn_psrTF : ∀ p, flagOn p psrTF = ibmBit p 3 := by decide +kernel

theorem ibmBit_setCondition : ∀ k ∈ [3, 4], ∀ p h l e, ibmBit (setCondition p h l e) k = ibmBit p k := by
  decide +kernel

theorem ibmBit_setSum : ∀ k ∈ [3, 4], ∀ p nz c, ibmBit (setSum p nz c) k = ibmBit p k := by decide +kernel

theorem ibmBit_setFlag_psrDO : ∀ k ∈ [3, 4], ∀ p,
    ibmBit (setFlag p psrDO true) k = (ibmBit p k || decide (k = 4)) := by decide +kernel

theorem ibmBit_setFlag_psrTF : ∀ k ∈ [3, 4], ∀ p,
    ibmBit (setFlag p psrTF true) k = (ibmBit p k || decide (k = 3)) := by decide +kernel

theorem ibmBit_resetTested (hk : k ∈ [3, 4]) (q p : Byte) :
    ibmBit (resetTested q p) k = (ibmBit p k && !ibmBit q k) := by
  obtain rfl | rfl : k = 3 ∨ k = 4 := by simpa using hk
  all_goals simp [ibmBit, resetTested]

/-! ## What an instruction does to them -/

/-- An indicator that is turned on is on where it was, or has been raised. -/
theorem sticky_of_or {b b' : Bool} {P Q : Prop} [Decidable P] (hb : b' = (b || decide P)) (hq : P → Q) :
    b' = b ∨ Q ∧ b' = true := by
  by_cases hp : P
  · exact .inr ⟨hq hp, by simp [hb, hp]⟩
  · exact .inl (by simp [hb, hp])

/-- A PSR setting leaves a sticky indicator, turns it off where the form tests it, or turns it on where the form
raises it (R234, R328). -/
theorem sets_sticky (hk : k ∈ [3, 4]) (hs : f.sets p p') (hp : f.selectsPsr = false) :
    ibmBit p' k = ibmBit p k ∨ f.tests k = true ∧ ibmBit p' k = false ∨ f.raises k ∧ ibmBit p' k = true := by
  unfold Form.sets at hs
  split at hs
  case h_1 => obtain ⟨nz, low, rfl⟩ := hs; exact .inl (ibmBit_setCondition k hk _ _ _ _)
  case h_2 q o1 o2 | h_3 q o1 o2 =>
    obtain ⟨p1, h1, h2⟩ := hs
    have after : ibmBit p' k = ibmBit p1 k := by
      obtain rfl | ⟨nz, low, rfl⟩ := h2
      · rfl
      · exact ibmBit_setCondition k hk _ _ _ _
    rw [after]
    obtain rfl | rfl := h1
    · exact .inl rfl
    · refine (sticky_of_or (ibmBit_setFlag_psrDO k hk p) fun h4 => .inl ⟨h4, q, o1, o2, ?_⟩).imp_right .inr
      simp
  case h_4 => obtain ⟨nz, c, rfl⟩ := hs; exact .inl (ibmBit_setSum k hk _ _ _)
  case h_5 => obtain ⟨nz, c, -, rfl⟩ := hs; exact .inl (ibmBit_setCondition k hk _ _ _ _)
  case h_6 => obtain ⟨x, y, rfl⟩ := hs; exact .inl (ibmBit_setCondition k hk _ _ _ _)
  case h_7 => obtain ⟨h, l, e, rfl⟩ := hs; exact .inl (ibmBit_setCondition k hk _ _ _ _)
  case h_8 => obtain ⟨x, rfl⟩ := hs; exact .inl (ibmBit_setCondition k hk _ _ _ _)
  case h_9 q o | h_10 q o =>
    obtain rfl := hs
    refine (sticky_of_or (ibmBit_setFlag_psrTF k hk p) fun h3 => .inr ⟨h3, q, o, ?_⟩).imp_right .inr
    simp
  case h_11 q o => obtain ⟨rfl, -⟩ := hs; cases hp
  case h_12 q o =>
    rw [if_neg fun hq => by rw [hq] at hp; cases hp] at hs
    obtain ⟨nz, c, rfl⟩ := hs
    exact .inl (ibmBit_setSum k hk _ _ _)
  case h_13 q o | h_14 q o =>
    obtain rfl := hs
    rw [ibmBit_resetTested hk]
    cases hq : ibmBit q k
    · exact .inl (by simp)
    · exact .inr (.inl ⟨hq, by simp⟩)
  case h_15 => exact hs.elim

/-- What an instruction that does not load the PSR does to a sticky indicator. -/
theorem exec_sticky (hk : k ∈ [3, 4]) (h : exec i s = .next t)
    (hp : i.form.selectsPsr = false) :
    ibmBit t.psr k = ibmBit s.psr k ∨ i.form.tests k = true ∧ ibmBit t.psr k = false ∨
      i.form.raises k ∧ ibmBit t.psr k = true := by
  obtain hs | hs := exec_psr h
  · exact .inl (by rw [hs])
  · exact sets_sticky hk hs hp

/-- An indicator that is on stays on where it is not tested. -/
theorem exec_keeps_sticky (hk : k ∈ [3, 4]) (h : exec i s = .next t)
    (hp : i.form.selectsPsr = false) (hon : ibmBit s.psr k = true) (ht : i.form.tests k = false) :
    ibmBit t.psr k = true := by
  obtain hs | ⟨hs, -⟩ | ⟨-, hs⟩ := exec_sticky hk h hp
  · rw [hs, hon]
  · rw [ht] at hs; cases hs
  · exact hs

/-- An indicator that goes on is one its form raises. -/
theorem raises_of_turned_on (hk : k ∈ [3, 4]) (h : exec i s = .next t)
    (hp : i.form.selectsPsr = false) (hoff : ibmBit s.psr k = false) (hon : ibmBit t.psr k = true) :
    i.form.raises k := by
  obtain hs | ⟨-, hs⟩ | ⟨hs, -⟩ := exec_sticky hk h hp
  · rw [hs, hoff] at hon; cases hon
  · rw [hs] at hon; cases hon
  · exact hs

/-- Settles O30: from the PSR setting table, for the two sticky indicators. -/
theorem stickyIndicatorsStay : Obligations.StickyIndicatorsStay := by
  intro i s t h hp
  simp only [flagOn_psrDO, flagOn_psrTF]
  refine ⟨exec_keeps_sticky (by decide) h hp, exec_keeps_sticky (by decide) h hp, fun hoff hon => ?_,
    fun hoff hon => ?_⟩
  · exact (raises_of_turned_on (by decide) h hp hoff hon).elim (·.2) fun h3 => absurd h3.1 (by decide)
  · exact (raises_of_turned_on (by decide) h hp hoff hon).elim (fun h4 => absurd h4.1 (by decide)) (·.2)

end Sys2Proof.Machine
end

section
/-! PROOF. `BC` and `JC` (spec/42_logical.md R235-R238, spec/43_command.md R261, R262). -/

namespace Sys2Proof.Machine

variable {s t b u : State} {q r : Byte} {o : Operand}

/-! ## Execution -/

/-- Entering an instruction and resetting the indicators it tests changes the PSR and the sequencing (R31, R38,
R236). -/
theorem completesOne_resetTested (s : State) (q : Byte) :
    CompletesOne s ((s.enter q).setPsr (resetTested q s.psr)) q :=
  ⟨⟨.refl s, ⟨rfl, rfl, rfl, rfl, rfl, rfl⟩, ⟨rfl, rfl, rfl, rfl, rfl, rfl, rfl⟩⟩, rfl, rfl⟩

/-- A `BC` that branches (R237). -/
theorem exec_bc_taken (hc : condMet q s.psr = true) (o : Operand) :
    exec (Form.addr .bc q o).instr s = .next { (s.enter q).setPsr (resetTested q s.psr) with
      lsr8 := s.address o, arr := s.iar, iar := s.address o } := by
  rw [exec_instr]
  exact if_pos hc

/-- A `BC` that does not branch (R237, D2). -/
theorem exec_bc_untaken (hc : condMet q s.psr = false) (o : Operand) :
    exec (Form.addr .bc q o).instr s = .next { (s.enter q).setPsr (resetTested q s.psr) with
      lsr8 := s.passedAddress o } := by
  rw [exec_instr]
  exact if_neg (Bool.eq_false_iff.mp hc)

/-- Settles O47: the condition decides whether the ARR and the IAR are loaded beside the reset. -/
theorem bcBranches : Obligations.BcBranches := by
  intro q o s
  rw [branches_iff]
  cases hc : condMet q s.psr with
  | true =>
    exact ⟨_, exec_bc_taken hc o, completesOne_resetTested s q, fun _ => rfl, fun _ => SameVisible.refl _,
      fun hn => absurd rfl hn⟩
  | false =>
    exact ⟨_, exec_bc_untaken hc o, completesOne_resetTested s q, fun _ => rfl, nofun,
      fun _ => SameVisible.refl _⟩

/-- Settles O48: the condition decides whether the IAR is loaded beside the reset. -/
theorem jcJumps : Obligations.JcJumps := by
  intro q r s
  have hexec : exec (.jc q r) s = .next (if condMet q s.psr then _ else _) := rfl
  rw [branches_iff, ← add_displacement]
  refine ⟨rfl, _, hexec, ?_⟩
  cases condMet q s.psr with
  | true =>
    exact ⟨completesOne_resetTested s q, fun _ => rfl, fun _ => SameVisible.refl _, fun hn => absurd rfl hn⟩
  | false => exact ⟨completesOne_resetTested s q, fun _ => rfl, nofun, fun _ => SameVisible.refl _⟩

/-! ## A direct `BC` that does not branch, from fetch to end (R238 (c)) -/

/-- With the CE panel's address stop off the fetch of a byte meets no compare (R299). -/
theorem fetchByte_compareHit {a : Byte} (hs : t.ceAddressStop = false) (hf : t.fetchByte = .ok a u) :
    u.compareHit = t.compareHit := by
  obtain ⟨x, v, hread, hu⟩ := Res.bind_eq_ok.mp hf
  obtain ⟨-, rfl⟩ := Res.ok.inj hu
  obtain ⟨-, h⟩ | ⟨e, -, h⟩ := readAt_cases t .i t.iar <;> rw [h] at hread <;> cases hread
  simp [State.compare, hs]

theorem Fetching.ceAddressStop {k : Nat} (hf : Fetching b t k) : t.ceAddressStop = b.ceAddressStop := by
  obtain ⟨l8, l9, m, hit, rfl⟩ := hf
  rfl

/-- The fetch of a byte that can be read, where no compare can be met. -/
theorem Fetching.fetchByte_unmet {k n : Nat} (hf : Fetching b t k) (hs : b.ceAddressStop = false)
    (hr : b.CodeReadable n) (hk : k < n) :
    ∃ u, t.fetchByte = .ok (b.codeByte k) u ∧ Fetching b u (k + 1) ∧ u.compareHit = t.compareHit := by
  obtain ⟨u, hu, hfu⟩ := hf.fetchByte hr hk
  exact ⟨u, hu, hfu, fetchByte_compareHit (hf.ceAddressStop.trans hs) hu⟩

/-- The byte after the Q-byte is read, the one after that passed (R238 (c)). -/
theorem fetchBranch_untaken {h : Byte} (hc : condMet q t.psr = false) (hf : t.fetchByte = .ok h u) :
    t.fetchBranch .direct q = .ok [h, 0x00] ((u.setLsr8 (join h (lo u.lsr8))).setIar (u.iar + 1)) := by
  simp only [State.fetchBranch, hc, hf, Bool.false_eq_true, if_false, Res.bind_ok]

/-- Fetch reads three bytes, passes four, and answers the `BC` with hex 00 for the byte it has not read. -/
theorem fetchInstr_untaken (hr : s.CodeReadable 3) (hop : s.codeByte 0 = 0xC0)
    (hc : condMet (s.codeByte 1) s.psr = false) (hs : s.ceAddressStop = false) :
    ∃ t, s.fetchInstr = .ok (.bcZ0 (s.codeByte 1) (join (s.codeByte 2) 0x00)) t ∧
      Fetching ((s.latchOp 0xC0).latchQ (s.codeByte 1)) t 4 ∧ t.compareHit = s.compareHit := by
  obtain ⟨u, hu, hfu, hitu⟩ := (Fetching.refl s).fetchByte_unmet hs hr (by decide)
  obtain ⟨v, hv, hfv, hitv⟩ := (hfu.latchOp 0xC0).fetchByte_unmet hs hr (by decide)
  obtain ⟨w, hw, hfw, hitw⟩ := (hfv.latchQ (s.codeByte 1)).fetchByte_unmet hs hr (by decide)
  have hv : (u.latchOp 0xC0).fetchByte = .ok (s.codeByte 1) v := hv
  have psr : (v.latchQ (s.codeByte 1)).psr = s.psr := (hfv.latchQ _).psr
  have hrest : (v.latchQ (s.codeByte 1)).fetchRest (.addr .bc .direct) (s.codeByte 1) = _ :=
    fetchBranch_untaken (psr ▸ hc) hw
  have header : headerOf 0xC0 = some (.addr .bc .direct) := rfl
  refine ⟨_, ?_, (hfw.setLsr8 (join (s.codeByte 2) (lo w.lsr8))).skip, hitw.trans (hitv.trans hitu)⟩
  unfold State.fetchInstr
  simp only [hu, hop, hv, header, hrest, Res.bind_ok]
  rfl

/-- A turn that neither stops, nor meets a compare, nor comes in step mode executes the instruction fetched and frees
the scratch registers (R32, R299). -/
theorem step_of_exec {i : Instr} (hh : s.host = []) (hrun : s.clockRun = true)
    (hf : s.clearCompare.fetchInstr = .ok i t) (he : exec i t = .next u) (hstop : u.stopped = none)
    (hhit : u.compareHit = false) (hstep : u.stepMode = false) : step s = .next u.freeScratch := by
  have hend : u.endInstruction = u.freeScratch := by simp [State.endInstruction, hstop, hhit, hstep]
  simp only [step, stepSystem, hh, if_pos hrun, runInstruction, hf, he, finish, hend]

theorem codeByte_one (s : State) : s.codeByte 1 = s.peek .i (s.iar + 1) := rfl

/-- Settles O10: fetch passes the fourth byte, and the `BC` executed goes on from there. -/
theorem untakenDirectBranchSkipsItsLastByte : Obligations.UntakenDirectBranchSkipsItsLastByte := by
  intro s hh hrun hstep hs hstop hr hop hb
  rw [← codeByte_one] at hb ⊢
  have hc : condMet (s.codeByte 1) s.psr = false := Bool.eq_false_iff.mpr ((branches_iff _ _).not.mp hb)
  obtain ⟨t, ht, hf, hit⟩ := fetchInstr_untaken (s := s.clearCompare) hr ((codeByte_zero s).trans hop) hc hs
  have hct : condMet (s.codeByte 1) t.psr = false := by rw [hf.psr]; exact hc
  have hexec := exec_bc_untaken hct (.direct (join (s.codeByte 2) 0x00))
  obtain ⟨stopped, stepMode⟩ : t.stopped = none ∧ t.stepMode = false := by
    obtain ⟨l8, l9, m, hit, rfl⟩ := hf
    exact ⟨hstop, hstep⟩
  refine ⟨_, step_of_exec hh hrun ht hexec stopped hit stepMode, ?_⟩
  obtain ⟨l8, l9, m, hit, rfl⟩ := hf
  exact ⟨hstop, hrun, SameVisible.refl _, .refl s, fun _ => rfl⟩

end Sys2Proof.Machine
end

section
/-! PROOF. `CLC` (spec/42_logical.md R231). -/

namespace Sys2Proof.Machine

variable {s t u : State} {q p x y : Byte} {o1 o2 : Operand} {a1 a2 a : Word} {e : StopEvent} {i j k n : Nat}

/-! ## The comparison so far -/

/-- The condition of the comparison of the rightmost `n` bytes (R71, R231). -/
def State.comparison (s : State) (a1 a2 : Word) (n : Nat) : Byte :=
  let x := s.fieldNat .op1 a1 n
  let y := s.fieldNat .op2 a2 n
  conditionOf (decide (x = y)) (decide (x < y))

/-- One more byte on the left decides unless it is the same in both numbers (R71). -/
theorem conditionOf_append {m n w : Nat} (hm : m < w) (hn : n < w) (x y : Byte) :
    conditionOf (decide (m + x.toNat * w = n + y.toNat * w)) (decide (m + x.toNat * w < n + y.toNat * w)) =
      if x = y then conditionOf (decide (m = n)) (decide (m < n))
      else conditionOf (decide (x = y)) (decide (x.toNat < y.toNat)) := by
  simp only [← BitVec.toNat_inj (x := x)]
  obtain hlt | heq | hlt := Nat.lt_trichotomy x.toNat y.toNat
  · have := Nat.mul_le_mul_right w (Nat.succ_le_of_lt hlt)
    rw [Nat.succ_mul] at this
    have ne : m + x.toNat * w ≠ n + y.toNat * w := by omega
    have lt : m + x.toNat * w < n + y.toNat * w := by omega
    simp only [ne, lt, hlt, hlt.ne, if_false]
  · simp only [heq, Nat.add_left_inj, Nat.add_lt_add_iff_right, if_true]
  · have := Nat.mul_le_mul_right w (Nat.succ_le_of_lt hlt)
    rw [Nat.succ_mul] at this
    have ne : m + x.toNat * w ≠ n + y.toNat * w := by omega
    have nlt : ¬m + x.toNat * w < n + y.toNat * w := by omega
    simp only [ne, nlt, hlt.not_gt, hlt.ne', if_false]

/-- One more pair of bytes decides unless they are equal (R231). -/
theorem comparison_succ (s : State) (a1 a2 : Word) (n : Nat) :
    s.comparison a1 a2 (n + 1) =
      (let x := s.peek .op1 (a1 - BitVec.ofNat 16 n)
      let y := s.peek .op2 (a2 - BitVec.ofNat 16 n)
      if x = y then s.comparison a1 a2 n else conditionOf (decide (x = y)) (decide (x.toNat < y.toNat))) := by
  simp only [State.comparison, fieldNat_eq, binaryNumber_succ]
  exact conditionOf_append (binaryNumber_lt _ n) (binaryNumber_lt _ n) _ _

/-- The PSR once `n` pairs have been compared (R231). -/
def State.comparedPsr (s : State) (a1 a2 : Word) (n : Nat) : Byte :=
  if n = 0 then s.psr else withCondition s.psr (s.comparison a1 a2 n)

theorem withCondition_withCondition (p c : Byte) (zero low : Bool) :
    withCondition (withCondition p (conditionOf zero low)) c = withCondition p c := by
  have upper : ∀ p zero low, withCondition p (conditionOf zero low) &&& 0xF8 = p &&& 0xF8 := by decide +kernel
  rw [withCondition, upper, ← withCondition]

/-- A later condition replaces the one so far. -/
theorem withCondition_comparedPsr (s : State) (a1 a2 : Word) (n : Nat) (c : Byte) :
    withCondition (s.comparedPsr a1 a2 n) c = withCondition s.psr c := by
  unfold State.comparedPsr
  split
  · rfl
  · exact withCondition_withCondition _ _ _ _

/-- What a byte cycle makes of the PSR (R231). -/
theorem comparedPsr_succ (s : State) (a1 a2 : Word) (n : Nat) :
    s.comparedPsr a1 a2 (n + 1) =
      (let x := s.peek .op1 (a1 - BitVec.ofNat 16 n)
      let y := s.peek .op2 (a2 - BitVec.ofNat 16 n)
      if x = y && n != 0 then s.comparedPsr a1 a2 n else setCompare (s.comparedPsr a1 a2 n) x y) := by
  simp only [setCompare_eq, withCondition_comparedPsr]
  rw [State.comparedPsr, if_neg (Nat.succ_ne_zero n), comparison_succ]
  generalize s.peek .op1 (a1 - BitVec.ofNat 16 n) = x, s.peek .op2 (a2 - BitVec.ofNat 16 n) = y
  obtain rfl | hxy := eq_or_ne x y
  · cases n with
    | zero => simp [State.comparison, State.fieldNat]
    | succ n => simp [State.comparedPsr]
  · simp [hxy]

/-! ## Byte cycles that read both operand fields and store nothing -/

/-- `u` is reached inside an instruction that started in `s` and stores nothing, with `p` in the PSR: LSR 8 is `i`
bytes down the operand 1 field from `a1`, LSR 9 is `j` bytes down the operand 2 field from `a2`. -/
structure Scanning (s : State) (q p : Byte) (a1 a2 : Word) (i j : Nat) (u : State) : Prop where
  reading : Reading s q u u
  visible : SameVisible { s with psr := p } u
  carry : u.carry = s.carry
  lsr8 : u.lsr8 = a1 - BitVec.ofNat 16 i
  lsr9 : u.lsr9 = a2 - BitVec.ofNat 16 j

theorem scanning_enterTwo (s : State) (q : Byte) (o1 o2 : Operand) :
    Scanning s q s.psr (s.address o1) (s.address o2) 0 0 (s.enterTwo q o1 o2) :=
  ⟨⟨⟨.refl s, ⟨rfl, rfl, rfl, rfl, rfl, rfl⟩, ⟨rfl, rfl, rfl, rfl, rfl, rfl, rfl⟩⟩, rfl, fun _ => rfl, _, _, _, _, rfl⟩,
    SameVisible.refl _, rfl, (BitVec.sub_zero _).symm, (BitVec.sub_zero _).symm⟩

/-- LSR 8, LSR 9, the MSAR, the Q-register, 'first cycle' and the compare may change. -/
theorem Reading.update (h : Reading s q u u) (l8 l9 m : Word) (qr : Byte) (f hit : Bool) :
    Reading s q { u with lsr8 := l8, lsr9 := l9, msar := m, qReg := qr, firstCycle := f, compareHit := hit }
      { u with lsr8 := l8, lsr9 := l9, msar := m, qReg := qr, firstCycle := f, compareHit := hit } :=
  ⟨h.completes, h.pmr, h.storage, _, _, _, _, rfl⟩

theorem Scanning.countQ (h : Scanning s q p a1 a2 i j u) : Scanning s q p a1 a2 i j u.countQ := by
  unfold State.countQ
  split
  · exact h
  · exact ⟨h.reading.update u.lsr8 u.lsr9 u.msar (u.qReg - 1) u.firstCycle u.compareHit, h.visible, h.carry, h.lsr8,
      h.lsr9⟩

theorem Scanning.takeOp2 (h : Scanning s q p a1 a2 i j u) (hr : s.canRead .op2 (a2 - BitVec.ofNat 16 j) = true) :
    ∃ w, u.takeOp2 = .ok (s.peek .op2 (a2 - BitVec.ofNat 16 j)) w ∧ Scanning s q p a1 a2 i (j + 1) w := by
  have found := h.reading.storage (s.target .op2 (a2 - BitVec.ofNat 16 j))
  unfold State.takeOp2
  rw [h.lsr9, readAt_ok h.reading.checks hr, found]
  exact ⟨_, rfl, h.reading.update u.lsr8 (u.lsr9 - 1) _ u.qReg u.firstCycle _, h.visible, h.carry, h.lsr8,
    by rw [State.downOp2_lsr9, ← sub_ofNat_succ, ← h.lsr9]; rfl⟩

theorem Scanning.takeOp1 (h : Scanning s q p a1 a2 i j u) (hr : s.canRead .op1 (a1 - BitVec.ofNat 16 i) = true) :
    ∃ w, u.takeOp1 = .ok (s.peek .op1 (a1 - BitVec.ofNat 16 i)) w ∧ Scanning s q p a1 a2 (i + 1) j w := by
  have found := h.reading.storage (s.target .op1 (a1 - BitVec.ofNat 16 i))
  unfold State.takeOp1 State.readOp1
  rw [h.lsr8, readAt_ok h.reading.checks hr, found]
  exact ⟨_, rfl, h.reading.update (u.lsr8 - 1) u.lsr9 _ u.qReg u.firstCycle _, h.visible, h.carry,
    by rw [State.downOp1_lsr8, ← sub_ofNat_succ, ← h.lsr8]; rfl, h.lsr9⟩

/-- The end of a cycle that leaves `p'` in the PSR. -/
theorem Scanning.endWith (h : Scanning s q p a1 a2 i j u) (p' : Byte) :
    Scanning s q p' a1 a2 i j (u.setPsr p').endCycle := by
  obtain ⟨⟨completes, pmr, storage, -⟩, ⟨iar, xr1, xr2, arr, -, visible⟩, carry, lsr8, lsr9⟩ := h
  exact ⟨⟨completes, pmr, storage, _, _, _, _, rfl⟩, ⟨iar, xr1, xr2, arr, rfl, visible⟩, carry, lsr8, lsr9⟩

/-- What an instruction that stops with `p` in the PSR leaves (R281, R292). -/
structure ScanFaulted (s : State) (p : Byte) (e : StopEvent) (t : State) : Prop where
  stopped : StoppedOn s t e
  control : SameControl s t
  storage : SameStorage s t
  visible : SameVisible { s with psr := p } t

theorem Scanning.faulted (h : Scanning s q p a1 a2 i j u) (la : Word) (e : StopEvent) :
    ScanFaulted s p e ((u.setMsar la).stop e) := by
  have reading := h.reading.update u.lsr8 u.lsr9 la u.qReg u.firstCycle u.compareHit
  obtain ⟨stopped, control, storage, -⟩ := reading.stop e
  exact ⟨stopped, control, storage, h.visible⟩

theorem Scanning.takeOp2_faults (h : Scanning s q p a1 a2 i j u)
    (he : s.readCheck .op2 (a2 - BitVec.ofNat 16 j) = .error e) :
    ∃ t, u.takeOp2 = .stop t ∧ ScanFaulted s p e t := by
  unfold State.takeOp2
  rw [readAt_error h.reading.checks (h.lsr9 ▸ he)]
  exact ⟨_, rfl, h.faulted _ e⟩

theorem Scanning.takeOp1_faults (h : Scanning s q p a1 a2 i j u)
    (he : s.readCheck .op1 (a1 - BitVec.ofNat 16 i) = .error e) :
    ∃ t, u.takeOp1 = .stop t ∧ ScanFaulted s p e t := by
  unfold State.takeOp1 State.readOp1
  rw [readAt_error h.reading.checks (h.lsr8 ▸ he)]
  exact ⟨_, rfl, h.faulted _ e⟩

/-! ## `CLC` -/

/-- `u` is inside a `CLC` that started in `s`, with `n` pairs of bytes compared. -/
abbrev Comparing (s : State) (q : Byte) (a1 a2 : Word) (n : Nat) (u : State) : Prop :=
  Scanning s q (s.comparedPsr a1 a2 n) a1 a2 n n u

/-- A byte cycle that completes (R231). -/
theorem Comparing.cycle (h : Comparing s q a1 a2 n u) (hr2 : s.canRead .op2 (a2 - BitVec.ofNat 16 n) = true)
    (hr1 : s.canRead .op1 (a1 - BitVec.ofNat 16 n) = true) (a : Unit) :
    ∃ a' t, clcCycle n a u = .ok a' t ∧ Comparing s q a1 a2 (n + 1) t := by
  obtain ⟨v, hv, scanning⟩ := h.countQ.takeOp2 hr2
  obtain ⟨w, hw, scanning⟩ := scanning.takeOp1 hr1
  obtain ⟨-, -, -, -, psr, -⟩ := scanning.visible
  refine ⟨(), _, ?_, scanning.endWith _⟩
  simp only [clcCycle, hv, hw, Res.bind_ok, psr, comparedPsr_succ]

/-- Byte `k` of operand 2, or then of operand 1, cannot be read. -/
abbrev State.CompareFaults (s : State) (a1 a2 : Word) (k : Nat) (e : StopEvent) : Prop :=
  s.readCheck .op2 (a2 - BitVec.ofNat 16 k) = .error e ∨
    s.canRead .op2 (a2 - BitVec.ofNat 16 k) = true ∧ s.readCheck .op1 (a1 - BitVec.ofNat 16 k) = .error e

/-- A byte cycle that stops (R292). -/
theorem Comparing.cycle_faults (h : Comparing s q a1 a2 k u) (hf : s.CompareFaults a1 a2 k e) (a : Unit) :
    ∃ t, clcCycle k a u = .stop t ∧ ScanFaulted s (s.comparedPsr a1 a2 k) e t := by
  obtain he | ⟨hr, he⟩ := hf
  · obtain ⟨t, ht, faulted⟩ := h.countQ.takeOp2_faults he
    exact ⟨t, by rw [clcCycle, ht, Res.bind_stop], faulted⟩
  · obtain ⟨v, hv, scanning⟩ := h.countQ.takeOp2 hr
    obtain ⟨t, ht, faulted⟩ := scanning.takeOp1_faults he
    exact ⟨t, by rw [clcCycle, hv, Res.bind_ok, ht, Res.bind_stop], faulted⟩

theorem exec_clc (s : State) (q : Byte) (o1 o2 : Operand) :
    exec (Form.two .clc q o1 o2).instr s = .next (loop clcCycle (fieldLength q) 0 () (s.enterTwo q o1 o2)).state :=
  exec_instr _ s

/-- A `CLC` whose fields can both be read. -/
theorem clc_completes (hr2 : s.FieldReadable .op2 (s.address o2) (q.toNat + 1))
    (hr1 : s.FieldReadable .op1 (s.address o1) (q.toNat + 1)) :
    ∃ t, exec (Form.two .clc q o1 o2).instr s = .next t ∧
      Comparing s q (s.address o1) (s.address o2) (q.toNat + 1) t := by
  obtain ⟨_, t, ht, comparing⟩ := loop_ok (inv := fun n _ u => Comparing s q (s.address o1) (s.address o2) n u)
    (body := clcCycle) (q.toNat + 1) 0 ()
    (fun n a u _ hn hu => hu.cycle (hr2 n (by omega)) (hr1 n (by omega)) a) (scanning_enterTwo s q o1 o2)
  rw [Nat.zero_add] at comparing
  exact ⟨t, by rw [exec_clc, fieldLength, ht, Res.state_ok], comparing⟩

/-- A `CLC` that compares `k` pairs of bytes and cannot read the next. -/
theorem clc_faults (hk : k < q.toNat + 1) (hr2 : s.FieldReadable .op2 (s.address o2) k)
    (hr1 : s.FieldReadable .op1 (s.address o1) k) (hf : s.CompareFaults (s.address o1) (s.address o2) k e) :
    ∃ t, exec (Form.two .clc q o1 o2).instr s = .next t ∧
      ScanFaulted s (s.comparedPsr (s.address o1) (s.address o2) k) e t := by
  obtain ⟨m, hm⟩ : ∃ m, fieldLength q = k + (m + 1) := ⟨q.toNat - k, by unfold fieldLength; omega⟩
  obtain ⟨t, ht, faulted⟩ := loop_stop (inv := fun n _ u => Comparing s q (s.address o1) (s.address o2) n u)
    (body := clcCycle) (Q := ScanFaulted s (s.comparedPsr (s.address o1) (s.address o2) k) e) k m 0 ()
    (fun n a u _ hn hu => hu.cycle (hr2 n (by omega)) (hr1 n (by omega)) a)
    (fun a u hu => by rw [Nat.zero_add] at hu ⊢; exact hu.cycle_faults hf a) (scanning_enterTwo s q o1 o2)
  exact ⟨t, by rw [exec_clc, hm, ht, Res.state_stop], faulted⟩

/-- Settles O54: all byte cycles complete, or `k` of them before one that faults. -/
theorem clcComparesFields : Obligations.ClcComparesFields := by
  intro q o1 o2 s a1 a2 after
  refine ⟨fun hr2 hr1 => ?_, fun k e hk hr2 hr1 hf => ?_⟩
  · obtain ⟨t, hexec, comparing⟩ := clc_completes hr2 hr1
    exact ⟨t, hexec, comparing.reading.completes, comparing.carry, comparing.reading.storage, comparing.visible⟩
  · obtain ⟨t, hexec, stopped, control, storage, visible⟩ := clc_faults hk hr2 hr1 hf
    refine ⟨t, hexec, stopped, control, storage, ?_⟩
    cases k with
    | zero => exact visible
    | succ k => exact visible

end Sys2Proof.Machine
end

section
/-! PROOF. `LPMR` (spec/43_command.md R263, R264). -/

namespace Sys2Proof.Machine

variable {s : State}

/-! ## Execution -/

/-- In privileged mode `LPMR` loads the PMR (R263). -/
theorem exec_lpmr_privileged (hp : s.nonprivileged = false) (q r : Byte) :
    exec (.lpmr q r) s = .next ((s.enter q).setPmr r) :=
  congrArg Host.Outcome.next (if_neg (Bool.eq_false_iff.mp hp))

/-- In nonprivileged mode `LPMR` is a storage exception (R264, R286). -/
theorem exec_lpmr_nonprivileged (hn : s.nonprivileged = true) (q r : Byte) :
    exec (.lpmr q r) s = .next ((s.enter q).stop .pmrAlter) :=
  congrArg Host.Outcome.next (if_pos hn)

/-! ## What the two answers leave -/

/-- Loading the PMR changes no register of the sequencing but those that entering changes (R31, R38, R263). -/
theorem completesOne_setPmr (s : State) (q r : Byte) : CompletesOne s ((s.enter q).setPmr r) q :=
  ⟨⟨.refl s, ⟨rfl, rfl, rfl, rfl, rfl, rfl⟩, ⟨rfl, rfl, rfl, rfl, rfl, rfl, rfl⟩⟩, rfl, rfl⟩

/-- A stop on entering leaves what a program and the control processor can see, but for the event (R281, R292). -/
theorem stopsUnchanged_enter (s : State) (q : Byte) (e : StopEvent) : StopsUnchanged s ((s.enter q).stop e) e :=
  ⟨⟨rfl, rfl, rfl, rfl, rfl⟩, SameVisible.refl s, .refl s, fun _ => rfl⟩

/-- Settles O49: PMR bit 7 decides between the load and the stop. -/
theorem lpmrLoadsOrStops : Obligations.LpmrLoadsOrStops := by
  intro q r s
  refine ⟨fun hp => ?_, fun hn => ?_⟩
  · have privileged : s.nonprivileged = false := (ibmBit_seven_eq_false s.pmr).mpr hp
    exact ⟨_, exec_lpmr_privileged privileged q r, completesOne_setPmr s q r, fun _ => rfl,
      SameVisible.refl { s with pmr := r &&& 0x8F }⟩
  · exact ⟨_, exec_lpmr_nonprivileged (nonprivileged_iff.mpr hn) q r, stopsUnchanged_enter s q .pmrAlter, rfl⟩

end Sys2Proof.Machine
end

section
/-! PROOF. The end of an instruction, and a turn with the clock stopped (spec/60_exceptions.md R281, R298, R299). -/

namespace Sys2Proof.Machine

variable {s : State}

/-! ## The four ends of an instruction (R291, R299) -/

theorem endInstruction_of_stopped (h : s.stopped.isSome = true) : s.endInstruction = s.freeScratch := if_pos h

theorem endInstruction_of_compareHit (hs : s.stopped = none) (hc : s.compareHit = true) :
    s.endInstruction = s.freeScratch.stop .addressCompare := by
  simp [State.endInstruction, hs, hc]

theorem endInstruction_of_stepMode (hs : s.stopped = none) (hc : s.compareHit = false) (hm : s.stepMode = true) :
    s.endInstruction = { s.freeScratch with clockRun := false } := by
  simp [State.endInstruction, hs, hc, hm]

theorem endInstruction_of_goesOn (hs : s.stopped = none) (hc : s.compareHit = false) (hm : s.stepMode = false) :
    s.endInstruction = s.freeScratch := by
  simp [State.endInstruction, hs, hc, hm]

/-! ## What each of them leaves -/

/-- Freeing the scratch registers is no stop (R32). -/
theorem noStop_freeScratch (s : State) : NoStop s s.freeScratch := ⟨rfl, rfl, rfl, rfl, rfl, rfl⟩

/-- Whichever way an instruction ends, its end shows a program nothing new. -/
theorem endInstruction_frame (s : State) :
    SameVisible s s.endInstruction ∧ SameControl s s.endInstruction ∧ SameStorage s s.endInstruction :=
  endInstruction_keeps (P := fun t => SameVisible s t ∧ SameControl s t ∧ SameStorage s t)
    ⟨SameVisible.refl s, .refl s, fun _ => rfl⟩ (fun _ h => h) (fun _ _ h => h) fun _ h => h

/-- Settles O7: the frame is that of every end; the clauses are the four ends. -/
theorem endOfInstructionAdds : Obligations.EndOfInstructionAdds := by
  intro s
  obtain ⟨visible, control, storage⟩ := endInstruction_frame s
  refine ⟨s.endInstruction, rfl, visible, control, storage, fun hs => ?stopped, fun hs hc => ?compare,
    fun hs hc hm => ?stepMode, fun hs hc hm => ?goesOn⟩
  case stopped => rw [endInstruction_of_stopped hs]; exact noStop_freeScratch s
  case compare => rw [endInstruction_of_compareHit hs hc]; exact ⟨rfl, rfl, rfl, rfl, rfl⟩
  case stepMode => rw [endInstruction_of_stepMode hs hc hm]; exact ⟨hs, rfl, rfl, rfl, rfl⟩
  case goesOn => rw [endInstruction_of_goesOn hs hc hm]; exact noStop_freeScratch s

/-! ## A turn with no action pending -/

/-- With no action of the control processor pending the clock run latch decides whether there is a turn (R297, D17). -/
theorem step_of_no_host (hh : s.host = []) :
    step s = if s.clockRun then runInstruction s else .fault .clockStopped := by
  simp only [step, stepSystem, hh]

/-- Settles O11: the clock run latch is off. -/
theorem stepStuckWhenClockStopped : Obligations.StepStuckWhenClockStopped :=
  fun _ hh hc => (step_of_no_host hh).trans (if_neg (Bool.eq_false_iff.mp hc))

end Sys2Proof.Machine
end

section
/-! PROOF. What a stop shows in the status bytes (spec/60_exceptions.md R281, R283). -/

namespace Sys2Proof.Machine

/-! ## Status byte 2 at a stop -/

/-- Bit 0 of status byte 2 comes on at an event that sets it, and its other bits stay. -/
theorem stop_statusByte2_of_sets (s : State) {e : StopEvent} (h : e.setsNonexecutable = true) :
    (s.stop e).statusByte2 = s.statusByte2 ||| 0x80 := by
  simp only [State.statusByte2, State.stop_nonexecutable, h, Bool.or_true, State.stop_controlGateCheck,
    State.stop_lsrGateCheck, State.stop_storageGateCheck, State.stop_firstCycle, State.stop_recomplement,
    State.stop_carry, State.stop_addressCheck]
  generalize s.nonexecutable = n, s.controlGateCheck = c, s.lsrGateCheck = l, s.storageGateCheck = m,
    s.firstCycle = f, s.recomplement = r, s.carry = t, s.addressCheck = x
  decide +revert

/-- Any other event leaves status byte 2 as it was. -/
theorem stop_statusByte2_of_not_sets (s : State) {e : StopEvent} (h : e.setsNonexecutable = false) :
    (s.stop e).statusByte2 = s.statusByte2 := by
  simp [State.statusByte2, h]

/-- No event changes bits 1 to 7 of status byte 2 (R283). -/
theorem stop_statusByte2_low (s : State) (e : StopEvent) :
    (s.stop e).statusByte2 &&& 0x7F = s.statusByte2 &&& 0x7F := by
  have low : ∀ b : Byte, (b ||| 0x80) &&& 0x7F = b &&& 0x7F := by decide +kernel
  cases h : e.setsNonexecutable with
  | true => rw [stop_statusByte2_of_sets s h, low]
  | false => rw [stop_statusByte2_of_not_sets s h]

/-- An event that sets bit 0 of status byte 2 shows there. -/
theorem stop_statusByte2_high_of_sets (s : State) {e : StopEvent} (h : e.setsNonexecutable = true) :
    (s.stop e).statusByte2 &&& 0x80 = 0x80 := by
  have high : ∀ b : Byte, (b ||| 0x80) &&& 0x80 = 0x80 := by decide +kernel
  rw [stop_statusByte2_of_sets s h, high]

/-- Settles O16: event by event, what it adds to the two status bytes. -/
theorem stopRecordsCauseInStatusBytes : Obligations.StopRecordsCauseInStatusBytes := by
  intro s e
  refine ⟨rfl, rfl, rfl, SameVisible.refl s, fun _ => rfl, ?statusByte3, ?statusByte2, stop_statusByte2_low s e⟩
  case statusByte3 =>
    cases e with
    | invalidAddress | protect | pmrAlter => rfl
    | nonexecutableOp | supervisorCall | addressCompare => exact BitVec.or_zero
    | hardwareCheck k =>
      cases k with
      | msarParity => rfl
      | controlGate | lsrGate | storageGate | address => exact BitVec.or_zero
  case statusByte2 =>
    cases e with
    | nonexecutableOp | supervisorCall => exact stop_statusByte2_high_of_sets s rfl
    | invalidAddress | protect | pmrAlter | addressCompare | hardwareCheck =>
      exact congrArg (· &&& 0x80) (stop_statusByte2_of_not_sets s rfl)

end Sys2Proof.Machine
end

section
/-! PROOF. Which instructions rewrite Binary overflow (spec/70_reset_and_hazards.md R328). -/

namespace Sys2Proof.Machine

variable {f : Form} {p p' : Byte}

/-! ## Binary overflow under each PSR setting -/

theorem flagOn_psrBO_setFlag : ∀ mask ∈ [psrTF, psrDO, psrHI, psrLO, psrEQ], ∀ p on,
    flagOn (setFlag p mask on) psrBO = flagOn p psrBO := by
  decide +kernel

theorem flagOn_psrBO_setCondition (p : Byte) (h l e : Bool) :
    flagOn (setCondition p h l e) psrBO = flagOn p psrBO := by
  rw [setCondition, flagOn_psrBO_setFlag _ (by decide), flagOn_psrBO_setFlag _ (by decide),
    flagOn_psrBO_setFlag _ (by decide)]

/-- A branch resets Test false and Decimal overflow at most (R236). -/
theorem flagOn_psrBO_resetTested (q p : Byte) : flagOn (resetTested q p) psrBO = flagOn p psrBO := by
  have outside : ~~~(q &&& 0x18) &&& psrBO = psrBO := by revert q; decide +kernel
  rw [flagOn, resetTested, BitVec.and_assoc, outside, flagOn]

/-- Of the PSR settings, only a sum and a load of the PSR can change Binary overflow (R328). -/
theorem sets_psrBO (hs : f.sets p p') (hp : f.selectsPsr = false) (hf : f.rewritesOverflow = false) :
    flagOn p' psrBO = flagOn p psrBO := by
  unfold Form.sets at hs
  split at hs
  case h_1 => obtain ⟨nz, low, rfl⟩ := hs; exact flagOn_psrBO_setCondition _ _ _ _
  case h_2 | h_3 =>
    obtain ⟨p1, h1, h2⟩ := hs
    have first : flagOn p1 psrBO = flagOn p psrBO := by
      obtain rfl | rfl := h1
      · rfl
      · exact flagOn_psrBO_setFlag _ (by decide) _ _
    obtain rfl | ⟨nz, low, rfl⟩ := h2
    · exact first
    · exact (flagOn_psrBO_setCondition _ _ _ _).trans first
  case h_4 | h_12 => cases hf
  case h_5 => obtain ⟨nz, c, -, rfl⟩ := hs; exact flagOn_psrBO_setCondition _ _ _ _
  case h_6 => obtain ⟨x, y, rfl⟩ := hs; exact flagOn_psrBO_setCondition _ _ _ _
  case h_7 => obtain ⟨h, l, e, rfl⟩ := hs; exact flagOn_psrBO_setCondition _ _ _ _
  case h_8 => obtain ⟨x, rfl⟩ := hs; exact flagOn_psrBO_setCondition _ _ _ _
  case h_9 | h_10 => obtain rfl := hs; exact flagOn_psrBO_setFlag _ (by decide) _ _
  case h_11 => obtain ⟨rfl, -⟩ := hs; cases hp
  case h_13 | h_14 => obtain rfl := hs; exact flagOn_psrBO_resetTested _ _
  case h_15 => exact hs.elim

/-- Settles O31: from the PSR setting table, for Binary overflow. -/
theorem binaryOverflowOnlyBy : Obligations.BinaryOverflowOnlyBy := by
  intro i s t h hp hf
  obtain hs | hs := exec_psr h
  · rw [hs]
  · exact sets_psrBO hs hp hf

end Sys2Proof.Machine
end
